-- ==== Sys2Proof/Word.lean ====
section
/-! DEFINITION. The word types of the block: what the spec treats as bits, at the widths the spec gives. -/

namespace Sys2Proof

/-- A host command word (30_encoding.md R76). -/
abbrev CmdWord := BitVec 32

/-- A ControllerState word (00_scope.md R10, 30_encoding.md R70). -/
abbrev PadWord := BitVec 16

/-- The levels of the six data lines, bit `i` the level of line `Di` (00_scope.md R11, 30_encoding.md R72). -/
abbrev Lines := BitVec 6

/-- A time in milliseconds, `P_TIME_WIDTH` = 32 bits (00_scope.md R13; DESIGN CHOICE to fix the width, log 6). -/
abbrev Time := BitVec 32

/-- A code of the Reader's sequencer phase (30_encoding.md R80). -/
abbrev PhaseCode := BitVec 4

/-- A value of the Writer's cycle counter (30_encoding.md R81). -/
abbrev CycleCode := BitVec 3

end Sys2Proof
end

