-- ==== Sys2Proof/Config.lean ====
section
/-! DEFINITION. What is fixed when the instances are built, the turns of the five agents, and the free values: what the spec leaves open. -/

namespace Sys2Proof

/-- `P_SIX_LATCH` (00_scope.md R14): what cycle 4 does when its two lines are not both asserted. -/
inductive SixLatch where
  /-- The six-button flag keeps its value. -/
  | sticky
  /-- The six-button flag is cleared. -/
  | assign
  deriving DecidableEq, Repr, Inhabited

/-- `P_SETTLE` (00_scope.md R16): whether a composed Reader waits for the Writer before it samples. -/
inductive Settle where
  | enforced
  | free
  deriving DecidableEq, Repr, Inhabited

/-- How the Reader and the Writer stand to each other (20_memory.md R52, R55, R56). -/
inductive Wiring where
  /-- One pair joined by seven wires. -/
  | composed
  /-- A Reader and a Writer that no wire joins; the environment supplies both their inputs. -/
  | standAlone
  deriving DecidableEq, Repr, Inhabited

/-- The pin assignment of one instance: the physical line of its select line and of its data lines `D0` to `D5`
(10_state.md R37). A physical line is a natural number (DESIGN CHOICE, log 11). -/
structure PinAssignment where
  sel : Nat
  d0 : Nat
  d1 : Nat
  d2 : Nat
  d3 : Nat
  d4 : Nat
  d5 : Nat
  deriving DecidableEq, Repr, Inhabited

/-- The configuration fixed at construction (10_state.md R29, R35). No step writes it. -/
structure Config where
  /-- `P_READ_DELAY_MS`, below `2^P_TIME_WIDTH` (00_scope.md R12). -/
  readDelayMs : Time
  /-- `P_SIX_LATCH` (00_scope.md R14). -/
  sixLatch : SixLatch
  /-- `W_SIX` (00_scope.md R15). -/
  wSix : Bool
  /-- `P_SETTLE` (00_scope.md R16). -/
  settle : Settle
  /-- Composed or stand-alone (20_memory.md R52, R55, R56). -/
  wiring : Wiring
  /-- The Reader's pins (10_state.md R37). -/
  rPins : PinAssignment
  /-- The Writer's pins (10_state.md R37). -/
  wPins : PinAssignment
  deriving DecidableEq, Repr

/-- One turn of one of the five agents of 00_scope.md R20 (20_memory.md R57). What an agent outside the block
decides stands in its turn. -/
inductive Turn where
  /-- The Reader sequencer takes one step. -/
  | reader
  /-- The Writer observer takes one step. -/
  | writer
  /-- The Reader's host offers the word `w` on the Reader's `cmd` port. -/
  | readerHost (w : CmdWord)
  /-- The Writer's host offers the word `w` on the Writer's `cmd` port. -/
  | writerHost (w : CmdWord)
  /-- The environment sets what it supplies: the time, the Reader data lines it drives (`driven`) and their levels,
  and the Writer's select level if it drives one. -/
  | environment (now : Time) (driven level : Lines) (sel : Option Bool)
  deriving DecidableEq, Repr, Inhabited

/-- FREE VALUE: the value of `P_READ_DELAY_MS` of the reset machine. The spec leaves it OPEN (00_scope.md R12, log 4). -/
opaque Config.freeReadDelayMs : Time

/-- FREE VALUE: the `W_SIX` of the reset machine, a construction argument with no default (00_scope.md R15, log 4). -/
opaque Config.freeWSix : Bool

/-- FREE VALUE: the turn taken when the agenda is used up. The spec fixes no order of the agents and no input
(20_memory.md R57, 93_implementation_defined.md I-U7, I-U8, I-U12; log 2). -/
opaque Config.freeTurn : Nat → Turn

end Sys2Proof
end

