-- ==== Sys2Proof/Syntax.lean ====
section
/-! DEFINITION. The instructions, one constructor per row of spec/opcode_table.json, and the shapes their codes have. -/

namespace Sys2Proof

/-- The two components, each with a host of its own (00_scope.md R1, 30_encoding.md R77 "accepted by"). -/
inductive Component where
  | reader
  | writer
  deriving DecidableEq, Repr, Inhabited

/-- The three fields of a host command word (30_encoding.md R76). -/
structure CmdFields where
  op : BitVec 4
  rsv : BitVec 12
  data : BitVec 16
  deriving DecidableEq, Repr

/-- What the block decodes: a command word, a phase code or a cycle value (30_encoding.md R82). -/
inductive Code where
  /-- Format CMD32. -/
  | cmd (w : CmdWord)
  /-- Format R_PHASE. -/
  | phase (p : PhaseCode)
  /-- Format W_CYCLE. -/
  | cycle (c : CycleCode)
  deriving DecidableEq, Repr

/-- Why a command word is refused (30_encoding.md R79). -/
inductive CmdReject where
  /-- `op` is `0x0` or `0x4` to `0xF`. -/
  | reservedOp
  /-- `rsv` is nonzero. -/
  | rsvNonzero
  /-- `data` is nonzero in a word other than SETSTATE. -/
  | dataNonzero
  /-- The word spells an operation of the other component. -/
  | wrongComponent
  deriving DecidableEq, Repr

/-- One constructor per row of the opcode table, in the table's order. -/
inductive Instr where
  /-- R100 to R102. -/
  | poll
  /-- R130. -/
  | setstate (imm16 : PadWord)
  /-- R131. -/
  | sample
  /-- R100: the sequencer waits for a command. -/
  | idle
  /-- R103, `k` = 0. -/
  | sel0
  /-- R103, `k` = 1. -/
  | sel1
  /-- R103, `k` = 2. -/
  | sel2
  /-- R103, `k` = 3. -/
  | sel3
  /-- R103, `k` = 4. -/
  | sel4
  /-- R103, `k` = 5. -/
  | sel5
  /-- R104. -/
  | smp0
  /-- R105. -/
  | smp1
  /-- R106. -/
  | smp2
  /-- R107. -/
  | smp3
  /-- R108. -/
  | smp4
  /-- R109. -/
  | smp5
  /-- R110. -/
  | done
  /-- R163, code `0xE`. -/
  | phaseUnusedE
  /-- R163, code `0xF`. -/
  | phaseUnusedF
  /-- R135, cycle 0. -/
  | drive0Connect
  /-- R136, cycle 1. -/
  | drive1Buttons
  /-- R135, cycle 2. -/
  | drive2Connect
  /-- R136, cycle 3. -/
  | drive3Buttons
  /-- R137, cycle 4. -/
  | drive4Sixid
  /-- R138, cycle 5. -/
  | drive5Ext
  /-- R135, cycle 6. -/
  | drive6Connect
  /-- R136, cycle 7. -/
  | drive7Buttons
  deriving DecidableEq, Repr, Inhabited

/-- What a decoder answers: an instruction, or a refusal by name. -/
inductive Decoded where
  | instr (i : Instr)
  | reject (r : CmdReject)
  deriving DecidableEq, Repr

end Sys2Proof
end

