-- ==== Sys2Proof/Machine/State.lean ====
section
/-! DEFINITION. The state of the block as plain data, its value at reset, and the reasons a step can stop. -/

namespace Sys2Proof.Machine

/-- The Reader's registers (10_state.md R22 to R28). -/
structure Reader where
  /-- `r_state[15:0]`, the ControllerState register. -/
  rState : PadWord
  /-- `r_six`, the six-button flag. -/
  rSix : Bool
  /-- `r_last`, the time of the last full read. -/
  rLast : Time
  /-- `r_valid`: a full read has completed since reset. -/
  rValid : Bool
  /-- `r_phase[3:0]`, the sequencer phase. -/
  rPhase : PhaseCode
  /-- `r_now`, the time the running full read was accepted at. -/
  rNow : Time
  /-- `r_sel`, which is the port `sel`; true is high. -/
  rSel : Bool
  deriving DecidableEq, Repr

/-- The Writer's registers (10_state.md R31 to R34). -/
structure Writer where
  /-- `w_target[15:0]`, the target ControllerState. -/
  wTarget : PadWord
  /-- `w_cycle[2:0]`, the cycle counter. -/
  wCycle : CycleCode
  /-- `w_prev_sel`, the select level seen last; true is high. -/
  wPrevSel : Bool
  /-- `w_dout[5:0]`, which is the port `dout`. -/
  wDout : Lines
  deriving DecidableEq, Repr

/-- What the environment supplies (10_state.md R30, R36; 20_memory.md R52, R53, R55; log 3). -/
structure Environment where
  /-- The time input. -/
  now : Time
  /-- The Reader data lines something outside drives. -/
  dinDriven : Lines
  /-- The levels on the driven data lines. -/
  dinLevel : Lines
  /-- The select level driven into a stand-alone Writer, if any. -/
  selIn : Option Bool
  deriving DecidableEq, Repr

/-- The host ports (10_state.md R30, R36; log 1, log 12). -/
structure HostPorts where
  /-- The command word standing on the Reader's `cmd` port. -/
  rCmd : Option CmdWord
  /-- The command word standing on the Writer's `cmd` port. -/
  wCmd : Option CmdWord
  /-- The response words delivered to the Reader's host, oldest first. -/
  resp : List PadWord
  deriving DecidableEq, Repr

/-- The whole machine: one Reader, one Writer, their ports, and the turns already chosen. -/
structure State where
  /-- Fixed at construction (10_state.md R29, R35; log 4). -/
  cfg : Config
  reader : Reader
  writer : Writer
  env : Environment
  ports : HostPorts
  /-- The refusal mark (60_exceptions.md R162). -/
  refusalMark : Bool
  /-- The MODEL's own: the turns already chosen, next first (log 2). -/
  agenda : List Turn
  /-- The MODEL's own: how many free turns have been taken (log 2). -/
  turnNo : Nat
  deriving DecidableEq, Repr

/-- Reasons the machine stops. -/
inductive Fault where
  /-- Raised by the meanings of the phase codes `0xE` and `0xF` (60_exceptions.md R163): a model that finds either
  must fault. Safe: the machine stops where the spec gives no next phase. -/
  | unusedPhase (code : PhaseCode)
  deriving DecidableEq, Repr

/-- Reasons there is no meaning. -/
inductive Refusal where
  /-- Raised only by exec's arms of instructions that have no meaning yet; no arm of this model uses it. Safe. -/
  | notModelled (mnemonic : String)
  /-- Raised by `step` before any turn when a pin assignment puts two roles on one line (60_exceptions.md R164).
  Safe: the configuration is given no run. -/
  | malformedPins
  deriving DecidableEq, Repr

/-- The Reader right after construction (10_state.md R22 to R28). -/
def Reader.reset : Reader :=
  { rState := 0x0000, rSix := false, rLast := 0, rValid := false, rPhase := 0, rNow := 0, rSel := true }

/-- The Writer right after construction (10_state.md R31 to R34). -/
def Writer.reset : Writer :=
  { wTarget := 0x0000, wCycle := 7, wPrevSel := true, wDout := 0b111111 }

/-- Nothing drives a line and the time input is 0 (DESIGN CHOICE, log 13). -/
def Environment.reset : Environment :=
  { now := 0, dinDriven := 0, dinLevel := 0, selIn := none }

/-- No command is pending and no response is owed (70_reset_and_hazards.md R181). -/
def HostPorts.reset : HostPorts :=
  { rCmd := none, wCmd := none, resp := [] }

/-- The configuration of the reset machine: the spec's defaults, free values where the spec leaves a parameter open,
and a composed pair on fourteen distinct lines (DESIGN CHOICE, log 4). -/
def resetConfig : Config :=
  { readDelayMs := Config.freeReadDelayMs
    sixLatch := .sticky
    wSix := Config.freeWSix
    settle := .enforced
    wiring := .composed
    rPins := { sel := 0, d0 := 1, d1 := 2, d2 := 3, d3 := 4, d4 := 5, d5 := 6 }
    wPins := { sel := 7, d0 := 8, d1 := 9, d2 := 10, d3 := 11, d4 := 12, d5 := 13 } }

/-- The machine right after reset (70_reset_and_hazards.md R180 to R182). -/
def State.reset : State :=
  { cfg := resetConfig
    reader := Reader.reset
    writer := Writer.reset
    env := Environment.reset
    ports := HostPorts.reset
    refusalMark := false
    agenda := []
    turnNo := 0 }

end Sys2Proof.Machine
end

