-- ==== Sys2Proof/Machine/Operands.lean ====
section
/-! DEFINITION. What the steps read and drive: the signal bits, the line reads, the sampling of a snapshot and the
Writer's line patterns. -/

namespace Sys2Proof.Machine

/-- ControllerState bit 0, connected (30_encoding.md R70). -/
def maskConn : PadWord := 0x0001
/-- ControllerState bit 7, A (30_encoding.md R70). -/
def maskA : PadWord := 0x0080
/-- ControllerState bit 8, Start (30_encoding.md R70). -/
def maskStart : PadWord := 0x0100
/-- ControllerState bit 9, X (30_encoding.md R70). -/
def maskX : PadWord := 0x0200
/-- ControllerState bit 10, Y (30_encoding.md R70). -/
def maskY : PadWord := 0x0400
/-- ControllerState bit 11, Z (30_encoding.md R70). -/
def maskZ : PadWord := 0x0800
/-- ControllerState bit 12, Mode (30_encoding.md R70). -/
def maskMode : PadWord := 0x1000

/-- The lines of a stand-alone Reader: a line that nothing drives reads 1 (20_memory.md R53). -/
def pulledUp (driven level : Lines) : Lines :=
  level ||| ~~~driven

/-- `LineRead(din)`: the snapshot of the six data lines (20_memory.md R52, R53, R56). -/
def State.lineDin (s : State) : Lines :=
  match s.cfg.wiring with
  | .composed => s.writer.wDout
  | .standAlone => pulledUp s.env.dinDriven s.env.dinLevel

/-- `LineRead(sel)`: the level on the Writer's select input (20_memory.md R53, R55, R56). -/
def State.lineSel (s : State) : Bool :=
  match s.cfg.wiring with
  | .composed => s.reader.rSel
  | .standAlone => s.env.selIn.getD true

/-- A line is asserted when its level is low (00_scope.md R19). -/
def asserted (d : Lines) (i : Nat) : Bool :=
  !d.getLsbD i

/-- The mask where the condition holds, else no bit. -/
def maskIf (b : Bool) (m : PadWord) : PadWord :=
  if b then m else 0x0000

/-- Both connection lines asserted (40_reader.md R106). -/
def connSeen (d : Lines) : Bool :=
  asserted d 2 && asserted d 3

/-- Cycle 2's new `r_state` (40_reader.md R106). -/
def sampleConnect (st : PadWord) (d : Lines) : PadWord :=
  let s := st ||| maskIf (connSeen d) maskConn
  if s.getLsbD 0 then s ||| maskIf (asserted d 4) maskA ||| maskIf (asserted d 5) maskStart else s

/-- Cycle 3's new `r_state` (40_reader.md R107). -/
def sampleButtons (st : PadWord) (d : Lines) : PadWord :=
  st ||| ((~~~d).setWidth 16 <<< 1)

/-- Both six-button lines asserted (40_reader.md R108). -/
def sixSeen (d : Lines) : Bool :=
  asserted d 0 && asserted d 1

/-- Cycle 4's new `r_six` (40_reader.md R108). -/
def latchSix (latch : SixLatch) (six : Bool) (d : Lines) : Bool :=
  match latch with
  | .sticky => if sixSeen d then true else six
  | .assign => sixSeen d

/-- Cycle 5's new `r_state` (40_reader.md R109). -/
def sampleExt (st : PadWord) (six : Bool) (d : Lines) : PadWord :=
  if six then
    st ||| maskIf (asserted d 0) maskZ ||| maskIf (asserted d 1) maskY |||
      maskIf (asserted d 2) maskX ||| maskIf (asserted d 3) maskMode
  else st

/-- The line vector with the six given levels, `b0` on `D0`. -/
def linesOf (b0 b1 b2 b3 b4 b5 : Bool) : Lines :=
  BitVec.ofBool b5 ++ BitVec.ofBool b4 ++ BitVec.ofBool b3 ++ BitVec.ofBool b2 ++ BitVec.ofBool b1 ++ BitVec.ofBool b0

/-- The level of a line driven from bit `i` of the target under the gate `g`: low exactly when both are 1
(41_writer.md R134). -/
def drivenLow (g : Bool) (T : PadWord) (i : Nat) : Bool :=
  !(g && T.getLsbD i)

/-- The CONNECT pattern (41_writer.md R135). -/
def patConnect (T : PadWord) : Lines :=
  let c := T.getLsbD 0
  linesOf true true (!c) (!c) (drivenLow c T 7) (drivenLow c T 8)

/-- The BUTTONS pattern (41_writer.md R136). -/
def patButtons (T : PadWord) : Lines :=
  let c := T.getLsbD 0
  linesOf (drivenLow c T 1) (drivenLow c T 2) (drivenLow c T 3) (drivenLow c T 4) (drivenLow c T 5) (drivenLow c T 6)

/-- The SIXID pattern (41_writer.md R137). -/
def patSixid (T : PadWord) (six : Bool) : Lines :=
  let c := T.getLsbD 0
  linesOf (!(c && six)) (!(c && six)) true true true true

/-- The EXT pattern (41_writer.md R138). -/
def patExt (T : PadWord) (six : Bool) : Lines :=
  let g := T.getLsbD 0 && six
  linesOf (drivenLow g T 11) (drivenLow g T 10) (drivenLow g T 9) (drivenLow g T 12) true true

end Sys2Proof.Machine
end

