-- ==== Sys2Proof/WellFormed.lean ====
section
/-! DEFINITION. The checks: command fields (30_encoding.md R76, R77, R79), instructions (30_encoding.md R80) and pin
assignments (10_state.md R37, 60_exceptions.md R164). -/

namespace Sys2Proof

/-- `op` is a code of 30_encoding.md R77. -/
def CmdFields.opKnown (f : CmdFields) : Bool :=
  f.op == 1 || f.op == 2 || f.op == 3

/-- The reserved field is zero (30_encoding.md R76). -/
def CmdFields.rsvZero (f : CmdFields) : Bool :=
  f.rsv == 0

/-- `data` is zero in every operation but SETSTATE (30_encoding.md R76). -/
def CmdFields.dataAllowed (f : CmdFields) : Bool :=
  f.op == 2 || f.data == 0

/-- The fields spell an operation. -/
def CmdFields.wf (f : CmdFields) : Bool :=
  f.opKnown && f.rsvZero && f.dataAllowed

/-- The instruction is one a step may reach: not a phase code marked unused (30_encoding.md R80). Every operand fits
its field by its type. -/
def Instr.wf : Instr → Bool
  | .phaseUnusedE => false
  | .phaseUnusedF => false
  | .poll | .setstate _ | .sample => true
  | .idle | .sel0 | .sel1 | .sel2 | .sel3 | .sel4 | .sel5 => true
  | .smp0 | .smp1 | .smp2 | .smp3 | .smp4 | .smp5 | .done => true
  | .drive0Connect | .drive1Buttons | .drive2Connect | .drive3Buttons => true
  | .drive4Sixid | .drive5Ext | .drive6Connect | .drive7Buttons => true

/-- No number stands twice in the list. -/
def allDistinct : List Nat → Bool
  | [] => true
  | n :: ns => !ns.contains n && allDistinct ns

/-- The seven lines of a pin assignment. -/
def PinAssignment.lines (p : PinAssignment) : List Nat :=
  [p.sel, p.d0, p.d1, p.d2, p.d3, p.d4, p.d5]

/-- The seven roles stand on seven distinct lines (10_state.md R37). -/
def PinAssignment.wf (p : PinAssignment) : Bool :=
  allDistinct p.lines

end Sys2Proof
end

