-- ==== Sys2Proof/Machine/Flags.lean ====
section
/-! DEFINITION. The conditions the steps test: command acceptance, the rate limit, the settle premise, the connected
flag, the select edge and the pin check. -/

namespace Sys2Proof.Machine

/-- The port `cmd_ready`: 1 exactly when the Reader is in `IDLE` (10_state.md R30). -/
def State.cmdReady (s : State) : Bool :=
  s.reader.rPhase == 0

/-- The elapsed time `(now - r_last) mod 2^P_TIME_WIDTH` (40_reader.md R101). -/
def elapsed (now last : Time) : Time :=
  now - last

/-- The rate-limit test of POLL (40_reader.md R100, R101). -/
def State.rateLimited (s : State) : Bool :=
  s.reader.rValid && decide ((elapsed s.env.now s.reader.rLast).toNat < s.cfg.readDelayMs.toNat)

/-- The settle premise holds: a composed Reader under `ENFORCED` samples only when the Writer has seen the present
select level (20_memory.md R58). -/
def State.settled (s : State) : Bool :=
  match s.cfg.wiring, s.cfg.settle with
  | .composed, .enforced => s.writer.wPrevSel == s.reader.rSel
  | .composed, .free => true
  | .standAlone, _ => true

/-- The connected flag (10_state.md R38). -/
def connected (st : PadWord) : Bool :=
  st.getLsbD 0

/-- The select level differs from the one the Writer saw last (41_writer.md R131). -/
def State.edgeSeen (s : State) : Bool :=
  s.lineSel != s.writer.wPrevSel

/-- Neither instance's pin assignment is malformed (60_exceptions.md R164). -/
def State.pinsOk (s : State) : Bool :=
  s.cfg.rPins.wf && s.cfg.wPins.wf

end Sys2Proof.Machine
end

