-- ==== Sys2Proof/Machine/Ops.lean ====
section
/-! DEFINITION. The named operations over registers, lines and ports that the meanings are built from. The block raises
no exception (60_exceptions.md R160), so there is no operation that takes one. -/

namespace Sys2Proof.Machine

/-- The state with the Reader's registers replaced. -/
def State.withReader (s : State) (r : Reader) : State :=
  { s with reader := r }

/-- The state with the Writer's registers replaced. -/
def State.withWriter (s : State) (w : Writer) : State :=
  { s with writer := w }

/-- The state with the host ports replaced. -/
def State.withPorts (s : State) (p : HostPorts) : State :=
  { s with ports := p }

/-- `phase <- P` (00_scope.md R18). -/
def State.setPhase (s : State) (p : PhaseCode) : State :=
  s.withReader { s.reader with rPhase := p }

/-- `LineWrite(sel, v)` (20_memory.md R54). -/
def State.writeSel (s : State) (v : Bool) : State :=
  s.withReader { s.reader with rSel := v }

/-- `LineWrite(dout, v)` (20_memory.md R54). -/
def State.writeDout (s : State) (v : Lines) : State :=
  s.withWriter { s.writer with wDout := v }

/-- `r_state <- v`. -/
def State.setPad (s : State) (v : PadWord) : State :=
  s.withReader { s.reader with rState := v }

/-- `r_six <- v`. -/
def State.setSix (s : State) (v : Bool) : State :=
  s.withReader { s.reader with rSix := v }

/-- `respond(v)`: the word goes to the Reader's host (00_scope.md R18; log 12). -/
def State.respond (s : State) (v : PadWord) : State :=
  s.withPorts { s.ports with resp := s.ports.resp ++ [v] }

/-- The Reader takes the command off its port (10_state.md R30; log 1). -/
def State.takeReaderCmd (s : State) : State :=
  s.withPorts { s.ports with rCmd := none }

/-- The Writer takes the command off its port (10_state.md R36; log 1). -/
def State.takeWriterCmd (s : State) : State :=
  s.withPorts { s.ports with wCmd := none }

/-- The refusal mark is set; no step clears it (60_exceptions.md R162). -/
def State.markRefusal (s : State) : State :=
  { s with refusalMark := true }

/-- The Reader's host offers a word. A host whose earlier word still waits is blocked and its turn changes nothing
(40_reader.md R100; log 1). -/
def State.offerReader (s : State) (w : CmdWord) : State :=
  match s.ports.rCmd with
  | none => s.withPorts { s.ports with rCmd := some w }
  | some _ => s

/-- The Writer's host offers a word, with the same rule (log 1). -/
def State.offerWriter (s : State) (w : CmdWord) : State :=
  match s.ports.wCmd with
  | none => s.withPorts { s.ports with wCmd := some w }
  | some _ => s

/-- The environment sets what it supplies (00_scope.md R20). -/
def State.supply (s : State) (now : Time) (driven level : Lines) (sel : Option Bool) : State :=
  { s with env := { now := now, dinDriven := driven, dinLevel := level, selIn := sel } }

/-- The registers a full read starts from (40_reader.md R102). -/
def State.startRead (s : State) : State :=
  s.withReader { s.reader with rState := 0x0000, rNow := s.env.now, rPhase := 0x1 }

/-- `SEL(k)`: drive the select line, go on to `SMP(k)` (40_reader.md R103). -/
def State.selectStep (s : State) (level : Bool) (next : PhaseCode) : State :=
  (s.writeSel level).setPhase next

/-- A sample step fires when the settle premise holds and otherwise holds, changing nothing (20_memory.md R58,
60_exceptions.md R165; log 14). -/
def State.whenSettled (s t : State) : State :=
  if s.settled then t else s

/-- The end of a full read: the disconnect rule, the timestamp and the response (40_reader.md R110). -/
def State.finishRead (s : State) : State :=
  (s.withReader
    { s.reader with
      rSix := if connected s.reader.rState then s.reader.rSix else false
      rLast := s.reader.rNow
      rValid := true
      rPhase := 0x0 }).respond s.reader.rState

/-- The Writer counts an edge: it stores the level and advances its counter modulo 8 (41_writer.md R131, R132). -/
def State.countEdge (s : State) : State :=
  s.withWriter { s.writer with wPrevSel := s.lineSel, wCycle := s.writer.wCycle + 1 }

/-- Construction of a Writer instance on the Writer's place: every Writer register at its reset value
(70_reset_and_hazards.md R180, R185; no step does this, R183; log 16). -/
def State.rebuildWriter (s : State) : State :=
  s.withWriter Writer.reset

end Sys2Proof.Machine
end

