-- ==== Sys2Proof/Machine/ReaderCycles.lean ====
section
/-! DEFINITION. The meanings of the Reader's commands and micro-steps (40_reader.md R100 to R110, 60_exceptions.md
R163). -/

namespace Sys2Proof.Machine

/-- POLL: hold while a full read runs, else the cached word or the start of a full read (40_reader.md R100 to R102). -/
def execPoll (s : State) : Host.Outcome State Fault Refusal :=
  if s.cmdReady then
    if s.rateLimited then .next (s.takeReaderCmd.respond s.reader.rState)
    else .next s.takeReaderCmd.startRead
  else .next s

/-- IDLE: the sequencer waits for a command; every register keeps its value (60_exceptions.md R175,
70_reset_and_hazards.md R182). -/
def execIdle (s : State) : Host.Outcome State Fault Refusal :=
  .next s

/-- SEL(0) (40_reader.md R103). -/
def execSel0 (s : State) : Host.Outcome State Fault Refusal :=
  .next (s.selectStep false 0x2)

/-- SEL(1) (40_reader.md R103). -/
def execSel1 (s : State) : Host.Outcome State Fault Refusal :=
  .next (s.selectStep true 0x4)

/-- SEL(2) (40_reader.md R103). -/
def execSel2 (s : State) : Host.Outcome State Fault Refusal :=
  .next (s.selectStep false 0x6)

/-- SEL(3) (40_reader.md R103). -/
def execSel3 (s : State) : Host.Outcome State Fault Refusal :=
  .next (s.selectStep true 0x8)

/-- SEL(4) (40_reader.md R103). -/
def execSel4 (s : State) : Host.Outcome State Fault Refusal :=
  .next (s.selectStep false 0xA)

/-- SEL(5) (40_reader.md R103). -/
def execSel5 (s : State) : Host.Outcome State Fault Refusal :=
  .next (s.selectStep true 0xC)

/-- SMP(0): samples nothing (40_reader.md R104). -/
def execSmp0 (s : State) : Host.Outcome State Fault Refusal :=
  .next (s.whenSettled (s.setPhase 0x3))

/-- SMP(1): samples nothing (40_reader.md R105). -/
def execSmp1 (s : State) : Host.Outcome State Fault Refusal :=
  .next (s.whenSettled (s.setPhase 0x5))

/-- SMP(2): the connection check, then A and Start (40_reader.md R106). -/
def execSmp2 (s : State) : Host.Outcome State Fault Refusal :=
  .next (s.whenSettled ((s.setPad (sampleConnect s.reader.rState s.lineDin)).setPhase 0x7))

/-- SMP(3): Up, Down, Left, Right, B and C (40_reader.md R107). -/
def execSmp3 (s : State) : Host.Outcome State Fault Refusal :=
  .next (s.whenSettled ((s.setPad (sampleButtons s.reader.rState s.lineDin)).setPhase 0x9))

/-- SMP(4): six-button detection (40_reader.md R108). -/
def execSmp4 (s : State) : Host.Outcome State Fault Refusal :=
  .next (s.whenSettled ((s.setSix (latchSix s.cfg.sixLatch s.reader.rSix s.lineDin)).setPhase 0xB))

/-- SMP(5): X, Y, Z and Mode, if the six-button flag is set (40_reader.md R109). -/
def execSmp5 (s : State) : Host.Outcome State Fault Refusal :=
  .next (s.whenSettled ((s.setPad (sampleExt s.reader.rState s.reader.rSix s.lineDin)).setPhase 0xD))

/-- DONE (40_reader.md R110). -/
def execDone (s : State) : Host.Outcome State Fault Refusal :=
  .next s.finishRead

/-- The unused phase code `0xE`: a fault, no next phase (60_exceptions.md R163; log 10). -/
def execPhaseUnusedE (_s : State) : Host.Outcome State Fault Refusal :=
  .fault (.unusedPhase 0xE)

/-- The unused phase code `0xF`: a fault, no next phase (60_exceptions.md R163; log 10). -/
def execPhaseUnusedF (_s : State) : Host.Outcome State Fault Refusal :=
  .fault (.unusedPhase 0xF)

end Sys2Proof.Machine
end

