-- ==== Sys2Proof/Machine/WriterPatterns.lean ====
section
/-! DEFINITION. The meanings of the Writer's drive steps, one per cycle (41_writer.md R133 to R138). -/

namespace Sys2Proof.Machine

/-- Cycle 0 drives CONNECT (41_writer.md R135). -/
def execDrive0Connect (s : State) : Host.Outcome State Fault Refusal :=
  .next (s.writeDout (patConnect s.writer.wTarget))

/-- Cycle 1 drives BUTTONS (41_writer.md R136). -/
def execDrive1Buttons (s : State) : Host.Outcome State Fault Refusal :=
  .next (s.writeDout (patButtons s.writer.wTarget))

/-- Cycle 2 drives CONNECT (41_writer.md R135). -/
def execDrive2Connect (s : State) : Host.Outcome State Fault Refusal :=
  .next (s.writeDout (patConnect s.writer.wTarget))

/-- Cycle 3 drives BUTTONS (41_writer.md R136). -/
def execDrive3Buttons (s : State) : Host.Outcome State Fault Refusal :=
  .next (s.writeDout (patButtons s.writer.wTarget))

/-- Cycle 4 drives SIXID (41_writer.md R137). -/
def execDrive4Sixid (s : State) : Host.Outcome State Fault Refusal :=
  .next (s.writeDout (patSixid s.writer.wTarget s.cfg.wSix))

/-- Cycle 5 drives EXT (41_writer.md R138). -/
def execDrive5Ext (s : State) : Host.Outcome State Fault Refusal :=
  .next (s.writeDout (patExt s.writer.wTarget s.cfg.wSix))

/-- Cycle 6 drives CONNECT (41_writer.md R135). -/
def execDrive6Connect (s : State) : Host.Outcome State Fault Refusal :=
  .next (s.writeDout (patConnect s.writer.wTarget))

/-- Cycle 7 drives BUTTONS (41_writer.md R136). -/
def execDrive7Buttons (s : State) : Host.Outcome State Fault Refusal :=
  .next (s.writeDout (patButtons s.writer.wTarget))

/-- The drive step: the meaning that the counter's value selects (41_writer.md R133, 30_encoding.md R81). -/
def driveStep (s : State) : Host.Outcome State Fault Refusal :=
  match s.writer.wCycle.toNat with
  | 0 => execDrive0Connect s
  | 1 => execDrive1Buttons s
  | 2 => execDrive2Connect s
  | 3 => execDrive3Buttons s
  | 4 => execDrive4Sixid s
  | 5 => execDrive5Ext s
  | 6 => execDrive6Connect s
  | _ => execDrive7Buttons s

end Sys2Proof.Machine
end

