-- ==== Sys2Proof/Machine/WriterCommands.lean ====
section
/-! DEFINITION. The meanings of the Writer's host commands (41_writer.md R130 to R133). -/

namespace Sys2Proof.Machine

/-- SETSTATE: store the target, drive nothing (41_writer.md R130). -/
def execSetstate (imm16 : PadWord) (s : State) : Host.Outcome State Fault Refusal :=
  .next (s.takeWriterCmd.withWriter { s.writer with wTarget := imm16 })

/-- SAMPLE: on an edge store the level, advance the counter, then drive the pattern of the new counter value; else
change no register (41_writer.md R131 to R133). -/
def execSample (s : State) : Host.Outcome State Fault Refusal :=
  if s.edgeSeen then driveStep s.takeWriterCmd.countEdge else .next s.takeWriterCmd

end Sys2Proof.Machine
end

