-- ==== Sys2Proof/Machine/Dispatch.lean ====
section
/-! DEFINITION. The meaning of every instruction: one arm per constructor of Instr, each one direct call. -/

namespace Sys2Proof.Machine

def exec (i : Instr) (s : State) : Host.Outcome State Fault Refusal :=
  match i with
  | .poll => Sys2Proof.Machine.execPoll s
  | .setstate imm16 => Sys2Proof.Machine.execSetstate imm16 s
  | .sample => Sys2Proof.Machine.execSample s
  | .idle => Sys2Proof.Machine.execIdle s
  | .sel0 => Sys2Proof.Machine.execSel0 s
  | .sel1 => Sys2Proof.Machine.execSel1 s
  | .sel2 => Sys2Proof.Machine.execSel2 s
  | .sel3 => Sys2Proof.Machine.execSel3 s
  | .sel4 => Sys2Proof.Machine.execSel4 s
  | .sel5 => Sys2Proof.Machine.execSel5 s
  | .smp0 => Sys2Proof.Machine.execSmp0 s
  | .smp1 => Sys2Proof.Machine.execSmp1 s
  | .smp2 => Sys2Proof.Machine.execSmp2 s
  | .smp3 => Sys2Proof.Machine.execSmp3 s
  | .smp4 => Sys2Proof.Machine.execSmp4 s
  | .smp5 => Sys2Proof.Machine.execSmp5 s
  | .done => Sys2Proof.Machine.execDone s
  | .phaseUnusedE => Sys2Proof.Machine.execPhaseUnusedE s
  | .phaseUnusedF => Sys2Proof.Machine.execPhaseUnusedF s
  | .drive0Connect => Sys2Proof.Machine.execDrive0Connect s
  | .drive1Buttons => Sys2Proof.Machine.execDrive1Buttons s
  | .drive2Connect => Sys2Proof.Machine.execDrive2Connect s
  | .drive3Buttons => Sys2Proof.Machine.execDrive3Buttons s
  | .drive4Sixid => Sys2Proof.Machine.execDrive4Sixid s
  | .drive5Ext => Sys2Proof.Machine.execDrive5Ext s
  | .drive6Connect => Sys2Proof.Machine.execDrive6Connect s
  | .drive7Buttons => Sys2Proof.Machine.execDrive7Buttons s

end Sys2Proof.Machine
end

