-- ==== Sys2Proof/Decode.lean ====
section
/-! DEFINITION. The decoder of the three formats, total, rejecting by name, and the encoder, both from
30_encoding.md R76 to R82. -/

namespace Sys2Proof

/-- The fields `op[31:28]`, `rsv[27:16]`, `data[15:0]` of a command word (30_encoding.md R76). -/
def cmdFields (w : CmdWord) : CmdFields :=
  { op := w.extractLsb' 28 4, rsv := w.extractLsb' 16 12, data := w.extractLsb' 0 16 }

/-- The command word with the given fields (30_encoding.md R76). -/
def cmdWordOf (f : CmdFields) : CmdWord :=
  f.op ++ f.rsv ++ f.data

/-- A command whose `data` field must be zero (30_encoding.md R76). -/
def decodeNoData (f : CmdFields) (i : Instr) : Decoded :=
  if f.data = 0 then .instr i else .reject .dataNonzero

/-- The operation the fields spell (30_encoding.md R77, R79). -/
def decodeFields (f : CmdFields) : Decoded :=
  if f.op ≠ 1 ∧ f.op ≠ 2 ∧ f.op ≠ 3 then .reject .reservedOp
  else if f.rsv ≠ 0 then .reject .rsvNonzero
  else if f.op = 1 then decodeNoData f .poll
  else if f.op = 2 then .instr (.setstate f.data)
  else decodeNoData f .sample

/-- The operation a command word spells (30_encoding.md R77, R79). -/
def decodeCmd (w : CmdWord) : Decoded :=
  decodeFields (cmdFields w)

/-- The phase a code stands for (30_encoding.md R80). -/
def decodePhase (p : PhaseCode) : Instr :=
  match p.toNat with
  | 0x0 => .idle
  | 0x1 => .sel0
  | 0x2 => .smp0
  | 0x3 => .sel1
  | 0x4 => .smp1
  | 0x5 => .sel2
  | 0x6 => .smp2
  | 0x7 => .sel3
  | 0x8 => .smp3
  | 0x9 => .sel4
  | 0xA => .smp4
  | 0xB => .sel5
  | 0xC => .smp5
  | 0xD => .done
  | 0xE => .phaseUnusedE
  | _ => .phaseUnusedF

/-- The drive step a cycle value selects (30_encoding.md R75, R81). -/
def decodeCycle (c : CycleCode) : Instr :=
  match c.toNat with
  | 0 => .drive0Connect
  | 1 => .drive1Buttons
  | 2 => .drive2Connect
  | 3 => .drive3Buttons
  | 4 => .drive4Sixid
  | 5 => .drive5Ext
  | 6 => .drive6Connect
  | _ => .drive7Buttons

/-- The decoder: every code gives an instruction or a refusal by name. -/
def decode : Code → Decoded
  | .cmd w => decodeCmd w
  | .phase p => .instr (decodePhase p)
  | .cycle c => .instr (decodeCycle c)

/-- The component that accepts a command (30_encoding.md R77). -/
def acceptedBy (i : Instr) (c : Component) : Bool :=
  match i with
  | .poll => c == .reader
  | .setstate _ | .sample => c == .writer
  | .idle | .sel0 | .sel1 | .sel2 | .sel3 | .sel4 | .sel5 => false
  | .smp0 | .smp1 | .smp2 | .smp3 | .smp4 | .smp5 | .done => false
  | .phaseUnusedE | .phaseUnusedF => false
  | .drive0Connect | .drive1Buttons | .drive2Connect | .drive3Buttons => false
  | .drive4Sixid | .drive5Ext | .drive6Connect | .drive7Buttons => false

/-- A command word as the component `c` receives it: a word of the other component is refused (30_encoding.md R79). -/
def decodeFor (c : Component) (w : CmdWord) : Decoded :=
  match decodeCmd w with
  | .instr i => if acceptedBy i c then .instr i else .reject .wrongComponent
  | .reject r => .reject r

/-- The encoder: the code of each instruction (30_encoding.md R77, R80, R81). -/
def encode : Instr → Code
  | .poll => .cmd (cmdWordOf { op := 0x1, rsv := 0, data := 0 })
  | .setstate imm16 => .cmd (cmdWordOf { op := 0x2, rsv := 0, data := imm16 })
  | .sample => .cmd (cmdWordOf { op := 0x3, rsv := 0, data := 0 })
  | .idle => .phase 0x0
  | .sel0 => .phase 0x1
  | .sel1 => .phase 0x3
  | .sel2 => .phase 0x5
  | .sel3 => .phase 0x7
  | .sel4 => .phase 0x9
  | .sel5 => .phase 0xB
  | .smp0 => .phase 0x2
  | .smp1 => .phase 0x4
  | .smp2 => .phase 0x6
  | .smp3 => .phase 0x8
  | .smp4 => .phase 0xA
  | .smp5 => .phase 0xC
  | .done => .phase 0xD
  | .phaseUnusedE => .phase 0xE
  | .phaseUnusedF => .phase 0xF
  | .drive0Connect => .cycle 0
  | .drive1Buttons => .cycle 1
  | .drive2Connect => .cycle 2
  | .drive3Buttons => .cycle 3
  | .drive4Sixid => .cycle 4
  | .drive5Ext => .cycle 5
  | .drive6Connect => .cycle 6
  | .drive7Buttons => .cycle 7

/-- The code a number of `nbits` bits stands for. A command word has 32 bits, a phase code 4 and a cycle value 3. In
whole bytes the last two have the same size, and 8 bits are then read as a phase code (DESIGN CHOICE, log 7). -/
def tableCode (nbits w : Nat) : Option Code :=
  if nbits = 32 ∧ w < 2 ^ 32 then some (.cmd (BitVec.ofNat 32 w))
  else if (nbits = 4 ∨ nbits = 8) ∧ w < 2 ^ 4 then some (.phase (BitVec.ofNat 4 w))
  else if nbits = 3 ∧ w < 2 ^ 3 then some (.cycle (BitVec.ofNat 3 w))
  else none

/-- The instruction the decoder reads from an opcode-table word, or none where it refuses. -/
def decodeTableWord (nbits w : Nat) : Option Instr :=
  match tableCode nbits w with
  | none => none
  | some c =>
    match decode c with
    | .instr i => some i
    | .reject _ => none

end Sys2Proof
end

