-- ==== Sys2Proof/Machine/Fetch.lean ====
section
/-! DEFINITION. Which agent moves next and what its turn runs: the agenda, the fetch of a phase code or a command word,
and the placing of a code where the next turn fetches it. -/

namespace Sys2Proof.Machine

/-- What a turn comes to: an instruction to run, or a move that runs none. -/
inductive Fetched where
  /-- The turn runs the instruction. -/
  | run (i : Instr)
  /-- The turn runs no instruction and leaves the given state. -/
  | move (t : State)
  deriving DecidableEq, Repr

/-- The next turn: the head of the agenda, or a free turn (20_memory.md R57; log 2). -/
def State.nextTurn (s : State) : Turn :=
  match s.agenda with
  | t :: _ => t
  | [] => Config.freeTurn s.turnNo

/-- The state in which the next turn is carried out: that turn is used up. -/
def State.passTurn (s : State) : State :=
  match s.agenda with
  | _ :: ts => { s with agenda := ts }
  | [] => { s with turnNo := s.turnNo + 1 }

/-- A refused word changes no register, drives no line, returns no response and sets the mark (60_exceptions.md R162;
log 9). -/
def State.refuseReaderCmd (s : State) : State :=
  s.takeReaderCmd.markRefusal

/-- The same for a word refused by the Writer (60_exceptions.md R162; log 9). -/
def State.refuseWriterCmd (s : State) : State :=
  s.takeWriterCmd.markRefusal

/-- The Reader's turn: in `IDLE` the waiting command, if any; else the micro-step of the phase code (40_reader.md R100,
30_encoding.md R80). -/
def fetchReader (s : State) : Fetched :=
  if s.cmdReady then
    match s.ports.rCmd with
    | none => .run (decodePhase s.reader.rPhase)
    | some w =>
      match decodeFor .reader w with
      | .instr i => .run i
      | .reject _ => .move s.refuseReaderCmd
  else .run (decodePhase s.reader.rPhase)

/-- The Writer's turn: the waiting command, if any; else every register keeps its value (41_writer.md R140,
60_exceptions.md R175). -/
def fetchWriter (s : State) : Fetched :=
  match s.ports.wCmd with
  | none => .move s
  | some w =>
    match decodeFor .writer w with
    | .instr i => .run i
    | .reject _ => .move s.refuseWriterCmd

/-- What a turn comes to. -/
def fetch (u : Turn) (s : State) : Fetched :=
  match u with
  | .reader => fetchReader s
  | .writer => fetchWriter s
  | .readerHost w => .move (s.offerReader w)
  | .writerHost w => .move (s.offerWriter w)
  | .environment now driven level sel => .move (s.supply now driven level sel)

/-- The agent named moves next. -/
def State.schedule (s : State) (u : Turn) : State :=
  { s with agenda := u :: s.agenda }

/-- The word stands on the Reader's port of an idle Reader, whose turn is next. -/
def State.placeReaderCmd (s : State) (w : CmdWord) : State :=
  ((s.setPhase 0x0).withPorts { s.ports with rCmd := some w }).schedule .reader

/-- The word stands on the Writer's port and the Writer's turn is next. -/
def State.placeWriterCmd (s : State) (w : CmdWord) : State :=
  (s.withPorts { s.ports with wCmd := some w }).schedule .writer

/-- The Reader is in the phase, no command waits, and its turn is next. -/
def State.placePhase (s : State) (p : PhaseCode) : State :=
  ((s.setPhase p).withPorts { s.ports with rCmd := none }).schedule .reader

/-- The Writer is one count before the cycle, has last seen the other level, and its next command is SAMPLE: the next
turn sees an edge and runs the drive step of the cycle (log 8). -/
def State.placeCycle (s : State) (c : CycleCode) : State :=
  (s.withWriter { s.writer with wCycle := c - 1, wPrevSel := !s.lineSel }).placeWriterCmd 0x30000000

/-- The code placed where the next turn fetches it (log 8). A command word goes to the component that accepts it; a
reserved word goes to the Reader, which refuses it. -/
def State.placeCode (s : State) (c : Code) : State :=
  match c with
  | .phase p => s.placePhase p
  | .cycle c => s.placeCycle c
  | .cmd w =>
    match decodeFor .writer w with
    | .instr _ => s.placeWriterCmd w
    | .reject _ => s.placeReaderCmd w

end Sys2Proof.Machine
end

