-- ==== Sys2Proof/Machine/Step.lean ====
section
/-! DEFINITION. One step of the machine: one turn of one agent (20_memory.md R57). -/

namespace Sys2Proof.Machine

/-- One step. A configuration with a malformed pin assignment has none (60_exceptions.md R164); else the next agent
takes its turn. -/
def step (s : State) : Host.Outcome State Fault Refusal :=
  if s.pinsOk then
    match fetch s.nextTurn s.passTurn with
    | .run i => exec i s.passTurn
    | .move t => .next t
  else .refused .malformedPins

/-- The state with an opcode-table word placed where the next step fetches it (log 8). A number that is no code of the
table leaves the state as it is. -/
def State.withFetchWord (s : State) (nbits w : Nat) : State :=
  match tableCode nbits w with
  | some c => s.placeCode c
  | none => s

end Sys2Proof.Machine
end

