-- ==== Sys2Proof/Machine/FullRead.lean ====
section
/-! DEFINITION. Derived functions the claims use: a full read as one function of its four snapshots (40_reader.md R112),
the pattern of a cycle (30_encoding.md R75) and the round-trip word (70_reset_and_hazards.md R186). No step calls them. -/

namespace Sys2Proof.Machine

/-- The six-button flag after cycle 4 (40_reader.md R112, `six1`). -/
def fullReadLatched (latch : SixLatch) (six : Bool) (d4 : Lines) : Bool :=
  match latch with
  | .sticky => six || (!d4.getLsbD 0 && !d4.getLsbD 1)
  | .assign => !d4.getLsbD 0 && !d4.getLsbD 1

/-- The word a full read responds with (40_reader.md R112, `s`). -/
def fullReadWord (latch : SixLatch) (six : Bool) (d2 d3 d4 d5 : Lines) : PadWord :=
  let conn := !d2.getLsbD 2 && !d2.getLsbD 3
  let base :=
    (if conn then 0x0001 else 0) ||| (if conn && !d2.getLsbD 4 then 0x0080 else 0) |||
      (if conn && !d2.getLsbD 5 then 0x0100 else 0) ||| ((~~~d3).setWidth 16 <<< 1)
  if fullReadLatched latch six d4 then
    base ||| (if d5.getLsbD 0 then 0 else 0x0800) ||| (if d5.getLsbD 1 then 0 else 0x0400) |||
      (if d5.getLsbD 2 then 0 else 0x0200) ||| (if d5.getLsbD 3 then 0 else 0x1000)
  else base

/-- The six-button flag after a full read (40_reader.md R112, `r_six'`). -/
def fullReadSix (latch : SixLatch) (six : Bool) (d2 d4 : Lines) : Bool :=
  (!d2.getLsbD 2 && !d2.getLsbD 3) && fullReadLatched latch six d4

/-- The pattern of a cycle value (30_encoding.md R75). -/
def patternOf (c : CycleCode) (T : PadWord) (six : Bool) : Lines :=
  match c.toNat with
  | 0 | 2 | 6 => patConnect T
  | 4 => patSixid T six
  | 5 => patExt T six
  | _ => patButtons T

/-- `RT(T)` (70_reset_and_hazards.md R186). -/
def roundTripWord (T : PadWord) (six : Bool) : PadWord :=
  if T.getLsbD 0 then (T &&& 0x01FF) ||| (if six then T &&& 0x1E00 else 0) else 0x0000

end Sys2Proof.Machine
end

