-- ==== Sys2Proof/Safety.lean ====
section
/-! DEFINITION. The terms claims are stated in: safe runs, the invariants of the spec, and the schedules of a full
read. -/

namespace Sys2Proof.Machine

/-- The phase code is one of 30_encoding.md R80's used codes (60_exceptions.md R163). -/
def State.phaseLegal (s : State) : Prop :=
  (decodePhase s.reader.rPhase).wf = true

/-- The select level each phase leaves: high in `IDLE`, `SEL(0)` and `DONE`, and alternating between them. It extends
10_state.md R40 from `IDLE` to every phase (40_reader.md R103). -/
def State.selMatchesPhase (s : State) : Prop :=
  s.reader.rSel = !s.reader.rPhase.getLsbD 1

/-- `r_state[15:13] == 0` (10_state.md R41). -/
def State.padReservedZero (s : State) : Prop :=
  s.reader.rState.extractLsb' 13 3 = 0

/-- From the start of a full read to its cycle 2, `r_state` is zero (40_reader.md R106). -/
def State.padClearAtStart (s : State) : Prop :=
  1 ≤ s.reader.rPhase.toNat → s.reader.rPhase.toNat ≤ 6 → s.reader.rState = 0

/-- `w_cycle mod 2 == w_prev_sel` (41_writer.md R142). -/
def State.cycleParity (s : State) : Prop :=
  s.writer.wCycle.getLsbD 0 = s.writer.wPrevSel

/-- The phase code is that of a sample step `SMP(k)` (30_encoding.md R80). -/
def isSmpPhase (p : PhaseCode) : Bool :=
  p == 0x2 || p == 0x4 || p == 0x6 || p == 0x8 || p == 0xA || p == 0xC

/-- In a composed pair under `ENFORCED`, outside the sample steps, the Writer has seen the present select level: no
edge is missed (70_reset_and_hazards.md R188, 20_memory.md R58). -/
def State.noEdgeMissed (s : State) : Prop :=
  s.cfg.wiring = .composed → s.cfg.settle = .enforced → isSmpPhase s.reader.rPhase = false →
    s.writer.wPrevSel = s.reader.rSel

/-- The invariants of the registers, together. -/
structure State.Inv (s : State) : Prop where
  phaseLegal : s.phaseLegal
  selMatchesPhase : s.selMatchesPhase
  padReservedZero : s.padReservedZero
  padClearAtStart : s.padClearAtStart
  cycleParity : s.cycleParity

/-- A run of `n` steps is safe when it ends in a state whose refusal mark is clear (60_exceptions.md R162, R163). -/
def safeRun (n : Nat) (s : State) : Prop :=
  ∃ t, Host.Core.run Sys2Proof.core n s = .next t ∧ t.refusalMark = false

/-- The word is a SETSTATE the Writer accepts. -/
def isSetstateWord (w : CmdWord) : Bool :=
  match decodeFor .writer w with
  | .instr (.setstate _) => true
  | _ => false

/-- The turn offers the Writer a SETSTATE. -/
def offersSetstate (u : Turn) : Bool :=
  match u with
  | .writerHost w => isSetstateWord w
  | _ => false

/-- No SETSTATE reaches the Writer in the next `n` turns. -/
def State.noSetstate (s : State) (n : Nat) : Prop :=
  n ≤ s.agenda.length ∧ (∀ w, s.ports.wCmd = some w → isSetstateWord w = false) ∧
    ∀ u ∈ s.agenda.take n, offersSetstate u = false

/-- A composed pair under `ENFORCED` whose Reader has just accepted a POLL for a full read and whose Writer has seen
the select level at rest (40_reader.md R102, 70_reset_and_hazards.md R185). -/
structure State.ReadStarted (s : State) : Prop where
  pins : s.pinsOk = true
  composed : s.cfg.wiring = .composed
  enforced : s.cfg.settle = .enforced
  phase : s.reader.rPhase = 0x1
  pad : s.reader.rState = 0
  selHigh : s.reader.rSel = true
  seenHigh : s.writer.wPrevSel = true

/-- The turns of one cycle of a composed full read: `SEL(k)`, one SAMPLE, `SMP(k)` (60_exceptions.md R167). -/
def composedCycleTurns : List Turn :=
  [.reader, .writerHost 0x30000000, .writer, .reader]

/-- The turns of a composed full read from the acceptance of the POLL to `DONE`, the Writer's host sampling once after
each edge. -/
def composedReadTurns : List Turn :=
  [.reader] ++ (List.replicate 6 composedCycleTurns).flatten ++ [.reader]

/-- The turns of one cycle of a stand-alone full read in which the environment draws the snapshot `d`. -/
def standAloneCycleTurns (now : Time) (sel : Option Bool) (d : Lines) : List Turn :=
  [.reader, .environment now 0b111111 d sel, .reader]

/-- The turns of a stand-alone full read with the given snapshots, one a cycle. -/
def standAloneReadTurns (now : Time) (sel : Option Bool) (ds : List Lines) : List Turn :=
  [.reader] ++ (ds.map (standAloneCycleTurns now sel)).flatten ++ [.reader]

/-- The turns of a stand-alone Writer whose select input takes the given levels in turn, with one SAMPLE at each. -/
def sampleTurns (now : Time) (driven level : Lines) (levels : List Bool) : List Turn :=
  (levels.map fun v => [.environment now driven level (some v), .writerHost 0x30000000, .writer]).flatten

/-- `n` alternating levels, the first one `v`. -/
def alternating (v : Bool) : Nat → List Bool
  | 0 => []
  | n + 1 => v :: alternating (!v) n

end Sys2Proof.Machine
end

