-- ==== Sys2Proof/Certificates/Slice0/Obligations.lean ====
section
/-! DEFINITION. The statements for the provers, in the order of OBLIGATIONS.json. -/

open Sys2Proof Sys2Proof.Machine

/-! ## Encoding -/

/-- Decoding the code of an instruction gives it back, every operand at every value (30_encoding.md R76 to R81). -/
def Obligations.DecodeOfEncode : Prop :=
  ∀ i : Instr, decode (encode i) = .instr i

/-- Each code has one meaning: a code that decodes to an instruction is that instruction's code (30_encoding.md R76 to
R81). -/
def Obligations.EncodeOfDecode : Prop :=
  ∀ (c : Code) (i : Instr), decode c = .instr i → encode i = c

/-- 30_encoding.md R77: a word spells an operation when `(w & mask) == match`, each operation accepted by its component
only; every other word is refused (R79). -/
def Obligations.CommandWordsAccepted : Prop :=
  ∀ (w : CmdWord) (i : Instr),
    (decodeFor .reader w = .instr i ↔ w &&& 0xFFFFFFFF = 0x10000000 ∧ i = .poll) ∧
      (decodeFor .writer w = .instr i ↔
        (w &&& 0xFFFF0000 = 0x20000000 ∧ i = .setstate (w.setWidth 16)) ∨
          (w &&& 0xFFFFFFFF = 0x30000000 ∧ i = .sample))

/-- Sanity: words and codes written out from 30_encoding.md R77, R80 and R81 decode to what they stand for. -/
def Obligations.WrittenCodesDecode : Prop :=
  decode (.cmd 0x10000000) = .instr .poll ∧ decode (.cmd 0x20001234) = .instr (.setstate 0x1234) ∧
    decode (.cmd 0x30000000) = .instr .sample ∧ decode (.phase 0x0) = .instr .idle ∧
    decode (.phase 0x7) = .instr .sel3 ∧ decode (.phase 0x8) = .instr .smp3 ∧ decode (.phase 0xD) = .instr .done ∧
    decode (.phase 0xE) = .instr .phaseUnusedE ∧ decode (.cycle 4) = .instr .drive4Sixid ∧
    decode (.cycle 5) = .instr .drive5Ext ∧ decode (.cmd 0x10010000) = .reject .rsvNonzero

/-! ## What a step runs -/

/-- A Reader's turn outside `IDLE`, or with no command waiting, runs the micro-step of the phase code (30_encoding.md R80,
40_reader.md R100). That an idle wait is a step is the model's (log 14), and so is the agenda the turn leaves (log 2). -/
def Obligations.StepRunsPhase : Prop :=
  ∀ (s : State) (us : List Turn), s.pinsOk = true → s.agenda = .reader :: us →
    (s.reader.rPhase ≠ 0 ∨ s.ports.rCmd = none) →
    step s = exec (decodePhase s.reader.rPhase) { s with agenda := us }

/-- An accepted command runs: a Reader's in `IDLE`, a Writer's at every Writer's turn (40_reader.md R100, 41_writer.md
R140). The turn leaves the agenda (the model's own field, log 2). -/
def Obligations.StepRunsCommand : Prop :=
  ∀ (s : State) (us : List Turn) (w : CmdWord) (i : Instr), s.pinsOk = true →
    (s.agenda = .reader :: us → s.reader.rPhase = 0 → s.ports.rCmd = some w → decodeFor .reader w = .instr i →
      step s = exec i { s with agenda := us }) ∧
    (s.agenda = .writer :: us → s.ports.wCmd = some w → decodeFor .writer w = .instr i →
      step s = exec i { s with agenda := us })

/-- The turns of the three agents outside the two components: the environment sets its inputs, and a host offers a word
unless its earlier word still waits (00_scope.md R20; the port rule is the model's, log 1). -/
def Obligations.OutsideTurns : Prop :=
  ∀ (s : State) (us : List Turn), s.pinsOk = true →
    (∀ now dr lv sel, s.agenda = .environment now dr lv sel :: us →
      step s = .next { s with
        env := { now := now, dinDriven := dr, dinLevel := lv, selIn := sel }
        agenda := us }) ∧
    (∀ w, s.agenda = .readerHost w :: us →
      step s = .next { s with
        ports := { s.ports with rCmd := some (s.ports.rCmd.getD w) }
        agenda := us }) ∧
    (∀ w, s.agenda = .writerHost w :: us →
      step s = .next { s with
        ports := { s.ports with wCmd := some (s.ports.wCmd.getD w) }
        agenda := us })

/-- When the agenda is used up the next turn is the free value at the turn count, and the count advances (20_memory.md
R57 fixes no order; the form is the model's choice, log 2). It holds whatever the free value is. -/
def Obligations.EmptyAgendaTakesFreeTurn : Prop :=
  ∀ s : State, s.agenda = [] →
    step s = step { s with agenda := [Config.freeTurn s.turnNo], turnNo := s.turnNo + 1 }

/-- With well-formed pins and a used phase code every step answers a next state: no exception, no stop (60_exceptions.md
R160). That a held or idle turn, and a turn with a refused word, is a step too is the model's (log 14, log 9). -/
def Obligations.LegalStateAlwaysMoves : Prop :=
  ∀ s : State, s.pinsOk = true → s.phaseLegal → ∃ t, step s = .next t

/-- A step faults only at a Reader's turn in phase `0xE` or `0xF`, and then always (60_exceptions.md R163). That only the
Reader's turn finds the code and the other turns go on is the model's (log 10). -/
def Obligations.FaultOnlyInUnusedPhase : Prop :=
  ∀ s : State, s.pinsOk = true →
    ((∃ f, step s = .fault f) ↔ s.nextTurn = .reader ∧ (s.reader.rPhase = 0xE ∨ s.reader.rPhase = 0xF))

/-! ## Lines -/

/-- 20_memory.md R56 and R53: in a composed pair each wire is the register that drives it; apart, a line that nothing
drives reads 1 and a driven line its level. -/
def Obligations.LineReads : Prop :=
  ∀ s : State,
    (s.cfg.wiring = .composed → s.lineDin = s.writer.wDout ∧ s.lineSel = s.reader.rSel) ∧
      (s.cfg.wiring = .standAlone →
        (∀ i, i < 6 → s.lineDin.getLsbD i = (!s.env.dinDriven.getLsbD i || s.env.dinLevel.getLsbD i)) ∧
          (s.env.selIn = none → s.lineSel = true) ∧ (∀ v, s.env.selIn = some v → s.lineSel = v))

/-! ## POLL -/

/-- 40_reader.md R100 to R102: POLL holds while a full read runs, responds with the cached word inside the read-delay,
and else starts a full read. No other register and no other port is written. That the hold is a next state which changes
nothing is the model's rendering (log 14); taking the word off the `cmd` port is the model's too (log 1), stated in
AcceptedCommandLeavesPort. -/
def Obligations.PollDispatch : Prop :=
  ∀ s : State, ∃ t, exec .poll s = .next t ∧ t.writer = s.writer ∧ t.env = s.env ∧ t.cfg = s.cfg ∧
    (s.cmdReady = true ↔ s.reader.rPhase = 0) ∧ (s.reader.rPhase ≠ 0 → t = s) ∧
    (s.reader.rPhase = 0 →
      s.reader.rValid = true →
      (s.env.now.toNat + 2 ^ 32 - s.reader.rLast.toNat) % 2 ^ 32 < s.cfg.readDelayMs.toNat →
      t.ports.resp = s.ports.resp ++ [s.reader.rState] ∧ t.reader = s.reader) ∧
    (s.reader.rPhase = 0 →
      (s.reader.rValid = false ∨
        s.cfg.readDelayMs.toNat ≤ (s.env.now.toNat + 2 ^ 32 - s.reader.rLast.toNat) % 2 ^ 32) →
      t.ports.resp = s.ports.resp ∧
        t.reader = { s.reader with rState := 0x0000, rNow := s.env.now, rPhase := 0x1 })

/-- The word inside the read-delay is the last full read's, bit for bit, whatever the lines, the Writer and the other
inputs have become (20_memory.md R63, 70_reset_and_hazards.md R193). -/
def Obligations.CachedPollRepeatsLastRead : Prop :=
  ∀ (s t : State) (e : Environment) (w : Writer), exec .done s = .next t →
    (e.now.toNat + 2 ^ 32 - s.reader.rNow.toNat) % 2 ^ 32 < s.cfg.readDelayMs.toNat →
    t.ports.resp = s.ports.resp ++ [s.reader.rState] ∧
      ∃ u, exec .poll { t with env := e, writer := w } = .next u ∧
        u.ports.resp = t.ports.resp ++ [s.reader.rState] ∧ u.reader = t.reader

/-! ## The Reader's micro-steps -/

/-- 60_exceptions.md R175: an idle Reader keeps every register. -/
def Obligations.IdleKeepsEverything : Prop :=
  ∀ s : State, exec .idle s = .next s

/-- 40_reader.md R103: `SEL(k)`, phase code `1 + 2k`, drives `sel` to `k mod 2` and goes on to `SMP(k)`, code `2 + 2k`. -/
def Obligations.SelectStep : Prop :=
  ∀ (s : State), ∀ p ∈ [(Instr.sel0, 0), (.sel1, 1), (.sel2, 2), (.sel3, 3), (.sel4, 4), (.sel5, 5)],
    decodePhase (BitVec.ofNat 4 (1 + 2 * p.2)) = p.1 ∧
      exec p.1 s = .next { s with
        reader := { s.reader with rSel := decide (p.2 % 2 = 1), rPhase := BitVec.ofNat 4 (2 + 2 * p.2) } }

/-- Where the invariant of the select level holds, a Reader's turn in a select phase changes the level of `sel`
(40_reader.md R103, corner case). -/
def Obligations.EverySelectStepIsAnEdge : Prop :=
  ∀ (s t : State), s.selMatchesPhase → s.reader.rPhase ∈ [0x1, 0x3, 0x5, 0x7, 0x9, 0xB] →
    s.nextTurn = .reader → step s = .next t → t.reader.rSel = !s.reader.rSel

/-- 40_reader.md R104 and R105: cycles 0 and 1 sample nothing, and go on when the settle premise holds. -/
def Obligations.SettlingSteps : Prop :=
  ∀ s : State, (s.cfg.wiring = .composed → s.cfg.settle = .enforced → s.writer.wPrevSel = s.reader.rSel) →
    exec .smp0 s = .next { s with reader := { s.reader with rPhase := 0x3 } } ∧
      exec .smp1 s = .next { s with reader := { s.reader with rPhase := 0x5 } }

/-- 40_reader.md R106: cycle 2 sets CONN when `D2` and `D3` are low, and A and START from `D4` and `D5` only if CONN. -/
def Obligations.ConnectionCheckStep : Prop :=
  ∀ s : State, (s.cfg.wiring = .composed → s.cfg.settle = .enforced → s.writer.wPrevSel = s.reader.rSel) →
    ∃ st : PadWord,
      exec .smp2 s = .next { s with reader := { s.reader with rState := st, rPhase := 0x7 } } ∧
        st.getLsbD 0 = (s.reader.rState.getLsbD 0 || (!s.lineDin.getLsbD 2 && !s.lineDin.getLsbD 3)) ∧
        st.getLsbD 7 = (s.reader.rState.getLsbD 7 || (st.getLsbD 0 && !s.lineDin.getLsbD 4)) ∧
        st.getLsbD 8 = (s.reader.rState.getLsbD 8 || (st.getLsbD 0 && !s.lineDin.getLsbD 5)) ∧
        ∀ i, i ≠ 0 → i ≠ 7 → i ≠ 8 → st.getLsbD i = s.reader.rState.getLsbD i

/-- 40_reader.md R107: cycle 3 sets bit `i + 1` when line `Di` is low, connected or not, and no other bit. -/
def Obligations.ButtonsStep : Prop :=
  ∀ s : State, (s.cfg.wiring = .composed → s.cfg.settle = .enforced → s.writer.wPrevSel = s.reader.rSel) →
    ∃ st : PadWord,
      exec .smp3 s = .next { s with reader := { s.reader with rState := st, rPhase := 0x9 } } ∧
        (∀ i, i < 6 → st.getLsbD (i + 1) = (s.reader.rState.getLsbD (i + 1) || !s.lineDin.getLsbD i)) ∧
        ∀ i, i = 0 ∨ 7 ≤ i → st.getLsbD i = s.reader.rState.getLsbD i

/-- 40_reader.md R108: cycle 4 sets the six-button flag when `D0` and `D1` are low; otherwise `STICKY` keeps it and
`ASSIGN` clears it. -/
def Obligations.SixButtonStep : Prop :=
  ∀ s : State, (s.cfg.wiring = .composed → s.cfg.settle = .enforced → s.writer.wPrevSel = s.reader.rSel) →
    ∃ six : Bool,
      exec .smp4 s = .next { s with reader := { s.reader with rSix := six, rPhase := 0xB } } ∧
        (s.lineDin.getLsbD 0 = false ∧ s.lineDin.getLsbD 1 = false → six = true) ∧
        (s.lineDin.getLsbD 0 = true ∨ s.lineDin.getLsbD 1 = true →
          (s.cfg.sixLatch = .sticky → six = s.reader.rSix) ∧ (s.cfg.sixLatch = .assign → six = false))

/-- 40_reader.md R109: cycle 5 reads Z, Y, X and MODE from `D0` to `D3`, only if the six-button flag is set. -/
def Obligations.ExtendedButtonsStep : Prop :=
  ∀ s : State, (s.cfg.wiring = .composed → s.cfg.settle = .enforced → s.writer.wPrevSel = s.reader.rSel) →
    ∃ st : PadWord,
      exec .smp5 s = .next { s with reader := { s.reader with rState := st, rPhase := 0xD } } ∧
        st.getLsbD 11 = (s.reader.rState.getLsbD 11 || (s.reader.rSix && !s.lineDin.getLsbD 0)) ∧
        st.getLsbD 10 = (s.reader.rState.getLsbD 10 || (s.reader.rSix && !s.lineDin.getLsbD 1)) ∧
        st.getLsbD 9 = (s.reader.rState.getLsbD 9 || (s.reader.rSix && !s.lineDin.getLsbD 2)) ∧
        st.getLsbD 12 = (s.reader.rState.getLsbD 12 || (s.reader.rSix && !s.lineDin.getLsbD 3)) ∧
        ∀ i, i < 9 ∨ 12 < i → st.getLsbD i = s.reader.rState.getLsbD i

/-- 20_memory.md R58: without the settle premise a sample step holds. That a hold is a step that changes nothing is the
model's rendering (log 14). -/
def Obligations.UnsettledSampleHolds : Prop :=
  ∀ s : State, s.cfg.wiring = .composed → s.cfg.settle = .enforced → s.writer.wPrevSel ≠ s.reader.rSel →
    ∀ i ∈ [Instr.smp0, .smp1, .smp2, .smp3, .smp4, .smp5], exec i s = .next s

/-- 40_reader.md R110: the disconnect rule, the timestamp, the response, back to `IDLE`. -/
def Obligations.DoneStep : Prop :=
  ∀ s : State,
    exec .done s = .next { s with
      reader := { s.reader with
        rSix := s.reader.rSix && s.reader.rState.getLsbD 0
        rLast := s.reader.rNow
        rValid := true
        rPhase := 0x0 }
      ports := { s.ports with resp := s.ports.resp ++ [s.reader.rState] } }

/-- 60_exceptions.md R163: the phase codes `0xE` and `0xF` fault, no next phase is picked; and they are unreachable: reset
has a used code and every step from a used code leaves a used code. -/
def Obligations.UnusedPhasesFault : Prop :=
  (∀ s : State, exec .phaseUnusedE s = .fault (.unusedPhase 0xE) ∧
    exec .phaseUnusedF s = .fault (.unusedPhase 0xF)) ∧
  (State.reset.reader.rPhase ≠ 0xE ∧ State.reset.reader.rPhase ≠ 0xF) ∧
  ∀ s t : State, s.reader.rPhase ≠ 0xE → s.reader.rPhase ≠ 0xF → step s = .next t →
    t.reader.rPhase ≠ 0xE ∧ t.reader.rPhase ≠ 0xF

/-! ## The Writer's commands and patterns -/

/-- 41_writer.md R130: SETSTATE writes `w_target` only; the counter, the level seen and the data lines keep their value. -/
def Obligations.SetstateStoresTarget : Prop :=
  ∀ (s : State) (imm16 : PadWord), ∃ t, exec (.setstate imm16) s = .next t ∧
    t.writer = { s.writer with wTarget := imm16 } ∧ t.reader = s.reader ∧ t.env = s.env ∧ t.cfg = s.cfg ∧
    t.ports.resp = s.ports.resp

/-- 41_writer.md R131 to R133: SAMPLE on an edge stores the level, advances the counter modulo 8 and drives the pattern
of the new counter; without an edge it changes no register. -/
def Obligations.SampleObservesSelect : Prop :=
  ∀ s : State, ∃ t, exec .sample s = .next t ∧ t.reader = s.reader ∧ t.env = s.env ∧ t.cfg = s.cfg ∧
    t.ports.resp = s.ports.resp ∧
    (s.lineSel = s.writer.wPrevSel → t.writer = s.writer) ∧
    (s.lineSel ≠ s.writer.wPrevSel →
      t.writer.wTarget = s.writer.wTarget ∧ t.writer.wPrevSel = s.lineSel ∧
        t.writer.wCycle.toNat = (s.writer.wCycle.toNat + 1) % 8 ∧
        t.writer.wDout = patternOf t.writer.wCycle s.writer.wTarget s.cfg.wSix)

/-- The drive part of a SAMPLE is the instruction its new counter value decodes to, run after the count (41_writer.md
R133, 30_encoding.md R81). That the word leaves the port is the model's (log 1). -/
def Obligations.SampleRunsDriveStep : Prop :=
  ∀ s : State, s.lineSel ≠ s.writer.wPrevSel →
    exec .sample s = exec (decodeCycle (s.writer.wCycle + 1)) { s with
      writer := { s.writer with wPrevSel := s.lineSel, wCycle := s.writer.wCycle + 1 }
      ports := { s.ports with wCmd := none } }

/-- 41_writer.md R135: CONNECT in cycles 0, 2 and 6. -/
def Obligations.ConnectPattern : Prop :=
  ∀ (s : State), ∀ i ∈ [Instr.drive0Connect, .drive2Connect, .drive6Connect], ∃ d : Lines,
    exec i s = .next { s with writer := { s.writer with wDout := d } } ∧
      d.getLsbD 0 = true ∧ d.getLsbD 1 = true ∧
      d.getLsbD 2 = !s.writer.wTarget.getLsbD 0 ∧ d.getLsbD 3 = !s.writer.wTarget.getLsbD 0 ∧
      d.getLsbD 4 = !(s.writer.wTarget.getLsbD 0 && s.writer.wTarget.getLsbD 7) ∧
      d.getLsbD 5 = !(s.writer.wTarget.getLsbD 0 && s.writer.wTarget.getLsbD 8)

/-- 41_writer.md R136: BUTTONS in cycles 1, 3 and 7. -/
def Obligations.ButtonsPattern : Prop :=
  ∀ (s : State), ∀ i ∈ [Instr.drive1Buttons, .drive3Buttons, .drive7Buttons], ∃ d : Lines,
    exec i s = .next { s with writer := { s.writer with wDout := d } } ∧
      ∀ k, k < 6 → d.getLsbD k = !(s.writer.wTarget.getLsbD 0 && s.writer.wTarget.getLsbD (k + 1))

/-- 41_writer.md R137: SIXID in cycle 4. -/
def Obligations.SixidPattern : Prop :=
  ∀ s : State, ∃ d : Lines,
    exec .drive4Sixid s = .next { s with writer := { s.writer with wDout := d } } ∧
      d.getLsbD 0 = !(s.writer.wTarget.getLsbD 0 && s.cfg.wSix) ∧
      d.getLsbD 1 = !(s.writer.wTarget.getLsbD 0 && s.cfg.wSix) ∧
      ∀ k, 2 ≤ k → k < 6 → d.getLsbD k = true

/-- 41_writer.md R138: EXT in cycle 5. -/
def Obligations.ExtPattern : Prop :=
  ∀ s : State, ∃ d : Lines,
    exec .drive5Ext s = .next { s with writer := { s.writer with wDout := d } } ∧
      d.getLsbD 0 = !(s.writer.wTarget.getLsbD 0 && s.cfg.wSix && s.writer.wTarget.getLsbD 11) ∧
      d.getLsbD 1 = !(s.writer.wTarget.getLsbD 0 && s.cfg.wSix && s.writer.wTarget.getLsbD 10) ∧
      d.getLsbD 2 = !(s.writer.wTarget.getLsbD 0 && s.cfg.wSix && s.writer.wTarget.getLsbD 9) ∧
      d.getLsbD 3 = !(s.writer.wTarget.getLsbD 0 && s.cfg.wSix && s.writer.wTarget.getLsbD 12) ∧
      d.getLsbD 4 = true ∧ d.getLsbD 5 = true

/-- A target without CONN drives every line high in every cycle (41_writer.md R134). -/
def Obligations.DisconnectedTargetDrivesHigh : Prop :=
  ∀ (s : State) (c : CycleCode), s.writer.wTarget.getLsbD 0 = false →
    exec (decodeCycle c) s = .next { s with writer := { s.writer with wDout := 0b111111 } }

/-- Targets that differ only in bits 13 to 15 drive the same lines in every cycle (30_encoding.md R71). -/
def Obligations.ReservedTargetBitsNeverDriven : Prop :=
  ∀ (s : State) (c : CycleCode) (T : PadWord), T &&& 0x1FFF = s.writer.wTarget &&& 0x1FFF →
    ∃ d : Lines, exec (decodeCycle c) s = .next { s with writer := { s.writer with wDout := d } } ∧
      exec (decodeCycle c) { s with writer := { s.writer with wTarget := T } } =
        .next { s with writer := { s.writer with wTarget := T, wDout := d } }

/-- A second SAMPLE at the same select level changes nothing but the port it came on (41_writer.md R131, corner case;
the port clause is the model's, log 1). -/
def Obligations.RepeatedSampleIsIdempotent : Prop :=
  ∀ (s t : State) (p : HostPorts), exec .sample s = .next t →
    exec .sample { t with ports := p } = .next { t with ports := { p with wCmd := none } }

/-! ## Frames -/

/-- An accepted command leaves its port; no other instruction touches a `cmd` port (the model's choice, log 1). -/
def Obligations.AcceptedCommandLeavesPort : Prop :=
  ∀ (i : Instr) (s t : State), exec i s = .next t →
    t.ports.rCmd = (if i = .poll ∧ s.reader.rPhase = 0 then none else s.ports.rCmd) ∧
      ((i = .sample ∨ (∃ d, i = .setstate d)) → t.ports.wCmd = none) ∧
      (i ≠ .sample → (∀ d, i ≠ .setstate d) → t.ports.wCmd = s.ports.wCmd)

/-- The Reader's register frame: each register changes only in the instructions 10_state.md R22 to R28 name, and a
response comes only from POLL and DONE. -/
def Obligations.ReaderRegisterFrame : Prop :=
  ∀ (i : Instr) (s t : State), exec i s = .next t →
    (i ∉ [.poll, .smp2, .smp3, .smp5] → t.reader.rState = s.reader.rState) ∧
      (i ∉ [.smp4, .done] → t.reader.rSix = s.reader.rSix) ∧
      (i ≠ .done → t.reader.rLast = s.reader.rLast ∧ t.reader.rValid = s.reader.rValid) ∧
      (i ≠ .poll → t.reader.rNow = s.reader.rNow) ∧
      (i ∉ [.sel0, .sel1, .sel2, .sel3, .sel4, .sel5] → t.reader.rSel = s.reader.rSel) ∧
      (i ∉ [.poll, .sel0, .sel1, .sel2, .sel3, .sel4, .sel5, .smp0, .smp1, .smp2, .smp3, .smp4, .smp5, .done] →
        t.reader = s.reader) ∧
      (i ∉ [.poll, .done] → t.ports.resp = s.ports.resp)

/-- The Writer's register frame: each register changes only in the instructions 10_state.md R31 to R34 name, and no
Reader instruction touches the Writer. -/
def Obligations.WriterRegisterFrame : Prop :=
  ∀ (i : Instr) (s t : State), exec i s = .next t →
    ((∀ d, i ≠ .setstate d) → t.writer.wTarget = s.writer.wTarget) ∧
      (i ≠ .sample → t.writer.wCycle = s.writer.wCycle ∧ t.writer.wPrevSel = s.writer.wPrevSel) ∧
      (i ∉ [.sample, .drive0Connect, .drive1Buttons, .drive2Connect, .drive3Buttons, .drive4Sixid, .drive5Ext,
          .drive6Connect, .drive7Buttons] →
        t.writer.wDout = s.writer.wDout) ∧
      (i ∈ [.poll, .idle, .sel0, .sel1, .sel2, .sel3, .sel4, .sel5, .smp0, .smp1, .smp2, .smp3, .smp4, .smp5, .done] →
        t.writer = s.writer)

/-- No instruction writes the configuration, the environment's inputs or the refusal mark (10_state.md R29, R35), nor
the model's own agenda and turn count (log 2). -/
def Obligations.InstructionOuterFrame : Prop :=
  ∀ (i : Instr) (s t : State), exec i s = .next t →
    t.cfg = s.cfg ∧ t.env = s.env ∧ t.refusalMark = s.refusalMark ∧ t.agenda = s.agenda ∧ t.turnNo = s.turnNo

/-! ## Whole-machine rules -/

/-- 20_memory.md R59: each instance's registers change only by its own steps, and no step writes the configuration. -/
def Obligations.OwnStepsOnly : Prop :=
  ∀ s t : State, step s = .next t →
    t.cfg = s.cfg ∧ (s.nextTurn ≠ .reader → t.reader = s.reader) ∧ (s.nextTurn ≠ .writer → t.writer = s.writer)

/-- Apart, neither component depends on the other's registers (20_memory.md R59): a Writer replaced by any other leaves
what a step does to the Reader and to the responses as it is, and a Reader replaced by any other leaves what a Writer's
turn does to the Writer as it is. -/
def Obligations.StandAloneComponentsAreIndependent : Prop :=
  ∀ (s t : State) (w : Writer) (r : Reader), s.cfg.wiring = .standAlone → step s = .next t →
    (∃ t', step { s with writer := w } = .next t' ∧ t'.reader = t.reader ∧ t'.ports = t.ports) ∧
      (s.nextTurn = .writer →
        ∃ t', step { s with reader := r } = .next t' ∧ t'.writer = t.writer ∧ t'.ports = t.ports)

/-- 41_writer.md R139: reset sets `dout` high; it changes only in a SAMPLE that sees an edge, and then shows the pattern of
the new counter. -/
def Obligations.DoutChangesOnlyOnSampledEdge : Prop :=
  State.reset.writer.wDout = 0b111111 ∧ ∀ s t : State, step s = .next t → t.writer.wDout ≠ s.writer.wDout →
    s.nextTurn = .writer ∧ s.ports.wCmd = some 0x30000000 ∧ s.lineSel ≠ s.writer.wPrevSel ∧
      t.writer.wDout = patternOf (s.writer.wCycle + 1) s.writer.wTarget s.cfg.wSix

/-- 40_reader.md R113: a response is `r_state`, sent by a POLL inside the read-delay or by `DONE`; one a step. -/
def Obligations.ResponsesOnlyFromPollAndDone : Prop :=
  ∀ s t : State, step s = .next t →
    t.ports.resp = s.ports.resp ∨
      (t.ports.resp = s.ports.resp ++ [s.reader.rState] ∧ s.nextTurn = .reader ∧
        (s.reader.rPhase = 0xD ∨
          (s.reader.rPhase = 0 ∧ s.rateLimited = true ∧ s.ports.rCmd = some 0x10000000)))

/-- 40_reader.md R111: the phases of a full read follow one another, none skipped or repeated, and while it runs no
command leaves the Reader's port. -/
def Obligations.FullReadOrder : Prop :=
  ∀ s t : State, step s = .next t →
    (t.reader.rPhase = s.reader.rPhase ∨
      (s.reader.rPhase = 0 ∧ t.reader.rPhase = 1 ∧ s.ports.rCmd = some 0x10000000) ∨
      (1 ≤ s.reader.rPhase.toNat ∧ s.reader.rPhase.toNat ≤ 12 ∧
        t.reader.rPhase.toNat = s.reader.rPhase.toNat + 1) ∨
      (s.reader.rPhase = 0xD ∧ t.reader.rPhase = 0)) ∧
    (s.reader.rPhase ≠ 0 → ∀ w, s.ports.rCmd = some w → t.ports.rCmd = some w)

/-- 60_exceptions.md R165: a composed Reader held in a sample step keeps every register, and only a Writer's turn with a
SAMPLE lifts the hold. -/
def Obligations.HoldLiftedOnlyBySample : Prop :=
  ∀ s t : State, s.cfg.wiring = .composed → s.cfg.settle = .enforced → isSmpPhase s.reader.rPhase = true →
    s.writer.wPrevSel ≠ s.reader.rSel → step s = .next t →
    t.reader = s.reader ∧
      (t.writer.wPrevSel = t.reader.rSel → s.nextTurn = .writer ∧ s.ports.wCmd = some 0x30000000)

/-- 60_exceptions.md R162: a refused word changes no register, drives no line, returns no response and sets the refusal
mark; no step clears the mark. That the machine goes on in a next state, and that a word on the Reader's port is refused only
in `IDLE`, is the model's (log 9). -/
def Obligations.RefusedWordSetsTheMark : Prop :=
  (∀ s t : State, step s = .next t → s.refusalMark = true → t.refusalMark = true) ∧
    ∀ (s : State) (w : CmdWord) (x : CmdReject), s.pinsOk = true →
      (s.nextTurn = .writer ∧ s.ports.wCmd = some w ∧ decodeFor .writer w = .reject x) ∨
        (s.nextTurn = .reader ∧ s.reader.rPhase = 0 ∧ s.ports.rCmd = some w ∧ decodeFor .reader w = .reject x) →
      ∃ t, step s = .next t ∧ t.refusalMark = true ∧ t.reader = s.reader ∧ t.writer = s.writer ∧
        t.ports.resp = s.ports.resp ∧ t.cfg = s.cfg

/-- The mark is set by a refused word and by nothing else (60_exceptions.md R162). That the Reader refuses a word only in
`IDLE` is the model's (log 9). -/
def Obligations.OnlyARefusedWordSetsTheMark : Prop :=
  ∀ s t : State, step s = .next t → s.refusalMark = false → t.refusalMark = true →
    ∃ w x, (s.nextTurn = .writer ∧ s.ports.wCmd = some w ∧ decodeFor .writer w = .reject x) ∨
      (s.nextTurn = .reader ∧ s.reader.rPhase = 0 ∧ s.ports.rCmd = some w ∧ decodeFor .reader w = .reject x)

/-- 60_exceptions.md R164: a configuration in which one instance has two roles on one line has no step; one with seven
distinct lines each is never refused for it. Lines are natural numbers (the model's, log 11). -/
def Obligations.MalformedPinsHaveNoRun : Prop :=
  ∀ s : State,
    (¬(s.cfg.rPins.lines.Nodup ∧ s.cfg.wPins.lines.Nodup) → step s = .refused .malformedPins) ∧
      (s.cfg.rPins.lines.Nodup ∧ s.cfg.wPins.lines.Nodup → ∀ r, step s ≠ .refused r)

/-! ## Reset and invariants -/

/-- 70_reset_and_hazards.md R180 and R181: the reset values of 10_state.md R22 to R28 and R31 to R34, no command pending,
no response owed. -/
def Obligations.ResetValues : Prop :=
  State.reset.reader =
      { rState := 0x0000, rSix := false, rLast := 0, rValid := false, rPhase := 0, rNow := 0, rSel := true } ∧
    State.reset.writer = { wTarget := 0x0000, wCycle := 7, wPrevSel := true, wDout := 0b111111 } ∧
    State.reset.ports = { rCmd := none, wCmd := none, resp := [] }

/-- The invariants hold at reset (10_state.md R40, R41; 41_writer.md R142; 60_exceptions.md R163). -/
def Obligations.InvariantsAtReset : Prop :=
  State.reset.Inv ∧ State.reset.noEdgeMissed

/-- Every step keeps the register invariants: a used phase code, the select level of the phase (10_state.md R40 for
`IDLE`), `r_state[15:13] == 0` (R41), a clear word up to cycle 2, and `w_cycle mod 2 == w_prev_sel` (41_writer.md R142). -/
def Obligations.StepKeepsInvariants : Prop :=
  ∀ s t : State, s.Inv → step s = .next t → t.Inv

/-- Under `ENFORCED` no edge is missed: outside the sample steps the Writer of a composed pair has seen the present
select level, and every step keeps it so (70_reset_and_hazards.md R188). -/
def Obligations.StepMissesNoEdge : Prop :=
  ∀ s t : State, s.noEdgeMissed → step s = .next t → t.noEdgeMissed

/-! ## Full reads -/

/-- 40_reader.md R112: a stand-alone full read with the snapshots `d0` to `d5` gives in its micro-steps what the one-step
function of the rule gives, and changes nothing else. The rate limit is given as not holding at the start. How the turns
and the draws are laid out is the model's (log 2, log 3). -/
def Obligations.StandAloneReadIsOneFunction : Prop :=
  ∀ (s : State) (us : List Turn) (now : Time) (sel : Option Bool) (d0 d1 d2 d3 d4 d5 : Lines),
    s.pinsOk = true → s.cfg.wiring = .standAlone → s.reader.rPhase = 0 → s.ports.rCmd = some 0x10000000 →
    s.rateLimited = false →
    s.agenda = standAloneReadTurns now sel [d0, d1, d2, d3, d4, d5] ++ us →
    Host.Core.run Sys2Proof.core 20 s = .next { s with
      reader :=
        { rState := fullReadWord s.cfg.sixLatch s.reader.rSix d2 d3 d4 d5
          rSix := fullReadSix s.cfg.sixLatch s.reader.rSix d2 d4
          rLast := s.env.now
          rValid := true
          rPhase := 0
          rNow := s.env.now
          rSel := true }
      env := { now := now, dinDriven := 0b111111, dinLevel := d5, selIn := sel }
      ports := { s.ports with
        rCmd := none
        resp := s.ports.resp ++ [fullReadWord s.cfg.sixLatch s.reader.rSix d2 d3 d4 d5] }
      agenda := us }

/-- 70_reset_and_hazards.md R187: a settled full read with one SAMPLE after each edge runs to its end, advances the
Writer's counter by 6 mod 8, and its cycle `k` samples the pattern of Writer cycle `(c + 1 + k) mod 8` (R185).
How the turns are laid out is the model's (log 1, log 2). -/
def Obligations.ComposedReadRunsToItsEnd : Prop :=
  ∀ (s : State) (us : List Turn), s.pinsOk = true → s.cfg.wiring = .composed → s.reader.rPhase = 0 →
    s.reader.rSel = true → s.writer.wPrevSel = true → s.ports.rCmd = some 0x10000000 → s.ports.wCmd = none →
    s.rateLimited = false → s.agenda = composedReadTurns ++ us →
    ∃ t, Host.Core.run Sys2Proof.core 26 s = .next t ∧ t.agenda = us ∧ t.reader.rPhase = 0 ∧
      t.reader.rSel = true ∧ t.writer.wPrevSel = true ∧ t.writer.wCycle = s.writer.wCycle + 6 ∧
      t.writer.wTarget = s.writer.wTarget ∧
      t.ports.resp = s.ports.resp ++
        [fullReadWord s.cfg.sixLatch s.reader.rSix
          (patternOf (s.writer.wCycle + 3) s.writer.wTarget s.cfg.wSix)
          (patternOf (s.writer.wCycle + 4) s.writer.wTarget s.cfg.wSix)
          (patternOf (s.writer.wCycle + 5) s.writer.wTarget s.cfg.wSix)
          (patternOf (s.writer.wCycle + 6) s.writer.wTarget s.cfg.wSix)]

/-- 70_reset_and_hazards.md R185, for EVERY schedule of the agents: under `ENFORCED`, with no SETSTATE during the read,
the first response is the word of R112 over the patterns of Writer cycles `(c + 1 + k) mod 8`, whenever and however
often the Writer samples; `IDLE` is reached only with that response. -/
def Obligations.EveryScheduleMeetsThePatterns : Prop :=
  ∀ (s t : State) (n : Nat), s.ReadStarted → s.noSetstate n → Host.Core.run Sys2Proof.core n s = .next t →
    (t.ports.resp = s.ports.resp ∧ t.reader.rPhase ≠ 0) ∨
      ∃ rest, t.ports.resp = s.ports.resp ++
        fullReadWord s.cfg.sixLatch s.reader.rSix
          (patternOf (s.writer.wCycle + 3) s.writer.wTarget s.cfg.wSix)
          (patternOf (s.writer.wCycle + 4) s.writer.wTarget s.cfg.wSix)
          (patternOf (s.writer.wCycle + 5) s.writer.wTarget s.cfg.wSix)
          (patternOf (s.writer.wCycle + 6) s.writer.wTarget s.cfg.wSix) :: rest

/-- 70_reset_and_hazards.md R186, for every schedule: an aligned full read (counter 7) under `ENFORCED` with no SETSTATE
during it responds with `RT(T)` and leaves `r_six` as the rule says; and `RT(T)` is `T` exactly under the rule's three
conditions. -/
def Obligations.AlignedReadRoundTrip : Prop :=
  (∀ (s t : State) (n : Nat), s.ReadStarted → s.writer.wCycle = 7 → s.noSetstate n →
    Host.Core.run Sys2Proof.core n s = .next t →
    ((t.ports.resp = s.ports.resp ∧ t.reader.rPhase ≠ 0) ∨
      ∃ rest, t.ports.resp = s.ports.resp ++ roundTripWord s.writer.wTarget s.cfg.wSix :: rest) ∧
    (t.reader.rPhase = 0 → t.ports.resp.length = s.ports.resp.length + 1 →
      (s.cfg.sixLatch = .assign → t.reader.rSix = (s.writer.wTarget.getLsbD 0 && s.cfg.wSix)) ∧
        (s.cfg.sixLatch = .sticky →
          t.reader.rSix = (s.writer.wTarget.getLsbD 0 && (s.cfg.wSix || s.reader.rSix))))) ∧
  (∀ (T : PadWord) (six : Bool),
    roundTripWord T six = T ↔
      T.extractLsb' 13 3 = 0 ∧ (T.getLsbD 0 = false → T = 0x0000) ∧ (six = false → T &&& 0x1E00 = 0))

/-- 70_reset_and_hazards.md R187, start counters 5 and 3, every schedule: bits 0 to 8 are right; the extended bits show
Up, Down, Left and Right under `STICKY` with `r_six` set, and are 0 otherwise. -/
def Obligations.MisalignedReadFromFiveOrThree : Prop :=
  ∀ (s t : State) (n : Nat) (v : PadWord), s.ReadStarted → s.writer.wCycle = 5 ∨ s.writer.wCycle = 3 →
    s.noSetstate n → Host.Core.run Sys2Proof.core n s = .next t → t.ports.resp = s.ports.resp ++ [v] →
    (∀ i, i < 9 → v.getLsbD i = (s.writer.wTarget.getLsbD 0 && s.writer.wTarget.getLsbD i)) ∧
      (s.cfg.sixLatch = .sticky ∧ s.reader.rSix = true →
        v.getLsbD 11 = (s.writer.wTarget.getLsbD 0 && s.writer.wTarget.getLsbD 1) ∧
        v.getLsbD 10 = (s.writer.wTarget.getLsbD 0 && s.writer.wTarget.getLsbD 2) ∧
        v.getLsbD 9 = (s.writer.wTarget.getLsbD 0 && s.writer.wTarget.getLsbD 3) ∧
        v.getLsbD 12 = (s.writer.wTarget.getLsbD 0 && s.writer.wTarget.getLsbD 4)) ∧
      (s.cfg.sixLatch = .assign ∨ s.reader.rSix = false → v &&& 0x1E00 = 0)

/-- 70_reset_and_hazards.md R187, start counter 1, every schedule: CONN is 0, Up, Down, Left and Right show Z, Y, X and
Mode of a six-button Writer, and when the Reader is back in `IDLE` after that one response `r_six` is clear. -/
def Obligations.MisalignedReadFromOne : Prop :=
  ∀ (s t : State) (n : Nat) (v : PadWord), s.ReadStarted → s.writer.wCycle = 1 → s.noSetstate n →
    Host.Core.run Sys2Proof.core n s = .next t → t.ports.resp = s.ports.resp ++ [v] →
    v &&& 0x01E1 = 0 ∧
      v.getLsbD 1 = (s.writer.wTarget.getLsbD 0 && s.cfg.wSix && s.writer.wTarget.getLsbD 11) ∧
      v.getLsbD 2 = (s.writer.wTarget.getLsbD 0 && s.cfg.wSix && s.writer.wTarget.getLsbD 10) ∧
      v.getLsbD 3 = (s.writer.wTarget.getLsbD 0 && s.cfg.wSix && s.writer.wTarget.getLsbD 9) ∧
      v.getLsbD 4 = (s.writer.wTarget.getLsbD 0 && s.cfg.wSix && s.writer.wTarget.getLsbD 12) ∧
      (t.reader.rPhase = 0 → t.reader.rSix = false)

/-! ## Edges -/

/-- 70_reset_and_hazards.md R188: when the level has changed `m` times since the last one the Writer saw, the next SAMPLE
counts one edge for odd `m` and none for even `m`: an even number is lost. -/
def Obligations.LostEdgesAreEven : Prop :=
  ∀ (s : State) (m : Nat), s.lineSel = (s.writer.wPrevSel ^^ decide (m % 2 = 1)) →
    ∃ t lost, exec .sample s = .next t ∧ m = m % 2 + 2 * lost ∧ t.writer.wPrevSel = s.lineSel ∧
      t.writer.wCycle = s.writer.wCycle + BitVec.ofNat 3 (m % 2)

/-- 41_writer.md R132: `n` SAMPLEs at alternating levels advance the counter by `n` mod 8, each driving the pattern of
its count. -/
def Obligations.AlternatingSamplesCount : Prop :=
  ∀ (n : Nat) (s : State) (us : List Turn) (now : Time) (dr lv : Lines), s.pinsOk = true →
    s.cfg.wiring = .standAlone → s.ports.wCmd = none →
    s.agenda = sampleTurns now dr lv (alternating (!s.writer.wPrevSel) n) ++ us →
    ∃ t, Host.Core.run Sys2Proof.core (3 * n) s = .next t ∧ t.agenda = us ∧ t.reader = s.reader ∧
      t.writer.wTarget = s.writer.wTarget ∧ t.writer.wCycle = s.writer.wCycle + BitVec.ofNat 3 n ∧
      (0 < n → t.writer.wDout = patternOf t.writer.wCycle s.writer.wTarget s.cfg.wSix)

/-- 70_reset_and_hazards.md R185: a Writer built while `sel` is low counts the Reader's last falling edge with its first
SAMPLE and comes to cycle 0, an even cycle at select low. Building it is no step (log 16). -/
def Obligations.LateWriterStartsAtCycleZero : Prop :=
  ∀ s : State, s.lineSel = false →
    ∃ t, exec .sample s.rebuildWriter = .next t ∧ t.reader = s.reader ∧
      t.writer = { wTarget := 0x0000, wCycle := 0, wPrevSel := false, wDout := 0b111111 }
end

