-- ==== Sys2Proof/Laws/State.lean ====
section
/-! SUPPORT. One lemma per field per update of State, and the derived updates written as the basic ones. -/

namespace Sys2Proof.Machine

@[simp] theorem State.withReader_cfg (s : State) (r : Reader) : (s.withReader r).cfg = s.cfg := rfl
@[simp] theorem State.withReader_reader (s : State) (r : Reader) : (s.withReader r).reader = r := rfl
@[simp] theorem State.withReader_writer (s : State) (r : Reader) : (s.withReader r).writer = s.writer := rfl
@[simp] theorem State.withReader_env (s : State) (r : Reader) : (s.withReader r).env = s.env := rfl
@[simp] theorem State.withReader_ports (s : State) (r : Reader) : (s.withReader r).ports = s.ports := rfl
@[simp] theorem State.withReader_refusalMark (s : State) (r : Reader) : (s.withReader r).refusalMark = s.refusalMark := rfl
@[simp] theorem State.withReader_agenda (s : State) (r : Reader) : (s.withReader r).agenda = s.agenda := rfl
@[simp] theorem State.withReader_turnNo (s : State) (r : Reader) : (s.withReader r).turnNo = s.turnNo := rfl

@[simp] theorem State.withWriter_cfg (s : State) (w : Writer) : (s.withWriter w).cfg = s.cfg := rfl
@[simp] theorem State.withWriter_reader (s : State) (w : Writer) : (s.withWriter w).reader = s.reader := rfl
@[simp] theorem State.withWriter_writer (s : State) (w : Writer) : (s.withWriter w).writer = w := rfl
@[simp] theorem State.withWriter_env (s : State) (w : Writer) : (s.withWriter w).env = s.env := rfl
@[simp] theorem State.withWriter_ports (s : State) (w : Writer) : (s.withWriter w).ports = s.ports := rfl
@[simp] theorem State.withWriter_refusalMark (s : State) (w : Writer) : (s.withWriter w).refusalMark = s.refusalMark := rfl
@[simp] theorem State.withWriter_agenda (s : State) (w : Writer) : (s.withWriter w).agenda = s.agenda := rfl
@[simp] theorem State.withWriter_turnNo (s : State) (w : Writer) : (s.withWriter w).turnNo = s.turnNo := rfl

@[simp] theorem State.withPorts_cfg (s : State) (p : HostPorts) : (s.withPorts p).cfg = s.cfg := rfl
@[simp] theorem State.withPorts_reader (s : State) (p : HostPorts) : (s.withPorts p).reader = s.reader := rfl
@[simp] theorem State.withPorts_writer (s : State) (p : HostPorts) : (s.withPorts p).writer = s.writer := rfl
@[simp] theorem State.withPorts_env (s : State) (p : HostPorts) : (s.withPorts p).env = s.env := rfl
@[simp] theorem State.withPorts_ports (s : State) (p : HostPorts) : (s.withPorts p).ports = p := rfl
@[simp] theorem State.withPorts_refusalMark (s : State) (p : HostPorts) : (s.withPorts p).refusalMark = s.refusalMark := rfl
@[simp] theorem State.withPorts_agenda (s : State) (p : HostPorts) : (s.withPorts p).agenda = s.agenda := rfl
@[simp] theorem State.withPorts_turnNo (s : State) (p : HostPorts) : (s.withPorts p).turnNo = s.turnNo := rfl

@[simp] theorem State.markRefusal_cfg (s : State) : s.markRefusal.cfg = s.cfg := rfl
@[simp] theorem State.markRefusal_reader (s : State) : s.markRefusal.reader = s.reader := rfl
@[simp] theorem State.markRefusal_writer (s : State) : s.markRefusal.writer = s.writer := rfl
@[simp] theorem State.markRefusal_env (s : State) : s.markRefusal.env = s.env := rfl
@[simp] theorem State.markRefusal_ports (s : State) : s.markRefusal.ports = s.ports := rfl
@[simp] theorem State.markRefusal_refusalMark (s : State) : s.markRefusal.refusalMark = true := rfl
@[simp] theorem State.markRefusal_agenda (s : State) : s.markRefusal.agenda = s.agenda := rfl
@[simp] theorem State.markRefusal_turnNo (s : State) : s.markRefusal.turnNo = s.turnNo := rfl

@[simp] theorem State.schedule_cfg (s : State) (u : Turn) : (s.schedule u).cfg = s.cfg := rfl
@[simp] theorem State.schedule_reader (s : State) (u : Turn) : (s.schedule u).reader = s.reader := rfl
@[simp] theorem State.schedule_writer (s : State) (u : Turn) : (s.schedule u).writer = s.writer := rfl
@[simp] theorem State.schedule_env (s : State) (u : Turn) : (s.schedule u).env = s.env := rfl
@[simp] theorem State.schedule_ports (s : State) (u : Turn) : (s.schedule u).ports = s.ports := rfl
@[simp] theorem State.schedule_refusalMark (s : State) (u : Turn) : (s.schedule u).refusalMark = s.refusalMark := rfl
@[simp] theorem State.schedule_agenda (s : State) (u : Turn) : (s.schedule u).agenda = u :: s.agenda := rfl
@[simp] theorem State.schedule_turnNo (s : State) (u : Turn) : (s.schedule u).turnNo = s.turnNo := rfl

@[simp] theorem State.supply_cfg (s : State) (now : Time) (driven level : Lines) (sel : Option Bool) : (s.supply now driven level sel).cfg = s.cfg := rfl
@[simp] theorem State.supply_reader (s : State) (now : Time) (driven level : Lines) (sel : Option Bool) : (s.supply now driven level sel).reader = s.reader := rfl
@[simp] theorem State.supply_writer (s : State) (now : Time) (driven level : Lines) (sel : Option Bool) : (s.supply now driven level sel).writer = s.writer := rfl
@[simp] theorem State.supply_env (s : State) (now : Time) (driven level : Lines) (sel : Option Bool) : (s.supply now driven level sel).env = { now := now, dinDriven := driven, dinLevel := level, selIn := sel } := rfl
@[simp] theorem State.supply_ports (s : State) (now : Time) (driven level : Lines) (sel : Option Bool) : (s.supply now driven level sel).ports = s.ports := rfl
@[simp] theorem State.supply_refusalMark (s : State) (now : Time) (driven level : Lines) (sel : Option Bool) : (s.supply now driven level sel).refusalMark = s.refusalMark := rfl
@[simp] theorem State.supply_agenda (s : State) (now : Time) (driven level : Lines) (sel : Option Bool) : (s.supply now driven level sel).agenda = s.agenda := rfl
@[simp] theorem State.supply_turnNo (s : State) (now : Time) (driven level : Lines) (sel : Option Bool) : (s.supply now driven level sel).turnNo = s.turnNo := rfl

/-! Derived updates. -/

@[simp] theorem State.setPhase_eq (s : State) (p : PhaseCode) : s.setPhase p = s.withReader { s.reader with rPhase := p } := rfl
@[simp] theorem State.writeSel_eq (s : State) (v : Bool) : s.writeSel v = s.withReader { s.reader with rSel := v } := rfl
@[simp] theorem State.setPad_eq (s : State) (v : PadWord) : s.setPad v = s.withReader { s.reader with rState := v } := rfl
@[simp] theorem State.setSix_eq (s : State) (v : Bool) : s.setSix v = s.withReader { s.reader with rSix := v } := rfl
@[simp] theorem State.writeDout_eq (s : State) (v : Lines) : s.writeDout v = s.withWriter { s.writer with wDout := v } := rfl
@[simp] theorem State.respond_eq (s : State) (v : PadWord) : s.respond v = s.withPorts { s.ports with resp := s.ports.resp ++ [v] } := rfl
@[simp] theorem State.takeReaderCmd_eq (s : State) : s.takeReaderCmd = s.withPorts { s.ports with rCmd := none } := rfl
@[simp] theorem State.takeWriterCmd_eq (s : State) : s.takeWriterCmd = s.withPorts { s.ports with wCmd := none } := rfl
@[simp] theorem State.startRead_eq (s : State) : s.startRead = s.withReader { s.reader with rState := 0x0000, rNow := s.env.now, rPhase := 0x1 } := rfl
@[simp] theorem State.selectStep_eq (s : State) (v : Bool) (p : PhaseCode) : s.selectStep v p = s.withReader { s.reader with rSel := v, rPhase := p } := rfl
@[simp] theorem State.countEdge_eq (s : State) : s.countEdge = s.withWriter { s.writer with wPrevSel := s.lineSel, wCycle := s.writer.wCycle + 1 } := rfl
@[simp] theorem State.rebuildWriter_eq (s : State) : s.rebuildWriter = s.withWriter Writer.reset := rfl

@[simp] theorem State.refuseReaderCmd_eq (s : State) : s.refuseReaderCmd = (s.withPorts { s.ports with rCmd := none }).markRefusal := rfl
@[simp] theorem State.refuseWriterCmd_eq (s : State) : s.refuseWriterCmd = (s.withPorts { s.ports with wCmd := none }).markRefusal := rfl
@[simp] theorem State.finishRead_eq (s : State) : s.finishRead = (s.withReader { s.reader with rSix := if connected s.reader.rState then s.reader.rSix else false, rLast := s.reader.rNow, rValid := true, rPhase := 0x0 }).withPorts { s.ports with resp := s.ports.resp ++ [s.reader.rState] } := rfl

/-! Two updates of one part. -/

@[simp] theorem State.withReader_withReader (s : State) (r r' : Reader) : (s.withReader r).withReader r' = s.withReader r' := rfl
@[simp] theorem State.withWriter_withWriter (s : State) (w w' : Writer) : (s.withWriter w).withWriter w' = s.withWriter w' := rfl
@[simp] theorem State.withPorts_withPorts (s : State) (p p' : HostPorts) : (s.withPorts p).withPorts p' = s.withPorts p' := rfl

/-! Passing a turn changes the agenda and the turn count only. -/

@[simp] theorem State.passTurn_cfg (s : State) : s.passTurn.cfg = s.cfg := by
  unfold State.passTurn; split <;> rfl
@[simp] theorem State.passTurn_reader (s : State) : s.passTurn.reader = s.reader := by
  unfold State.passTurn; split <;> rfl
@[simp] theorem State.passTurn_writer (s : State) : s.passTurn.writer = s.writer := by
  unfold State.passTurn; split <;> rfl
@[simp] theorem State.passTurn_env (s : State) : s.passTurn.env = s.env := by
  unfold State.passTurn; split <;> rfl
@[simp] theorem State.passTurn_ports (s : State) : s.passTurn.ports = s.ports := by
  unfold State.passTurn; split <;> rfl
@[simp] theorem State.passTurn_refusalMark (s : State) : s.passTurn.refusalMark = s.refusalMark := by
  unfold State.passTurn; split <;> rfl

/-! The agenda gives the next turn. -/

theorem State.nextTurn_of_agenda (s : State) (u : Turn) (us : List Turn) (h : s.agenda = u :: us) : s.nextTurn = u := by
  simp [State.nextTurn, h]

theorem State.passTurn_of_agenda (s : State) (u : Turn) (us : List Turn) (h : s.agenda = u :: us) :
    s.passTurn = { s with agenda := us } := by
  simp [State.passTurn, h]

theorem State.schedule_nextTurn (s : State) (u : Turn) : (s.schedule u).nextTurn = u := rfl

theorem State.schedule_passTurn (s : State) (u : Turn) : (s.schedule u).passTurn = s := rfl

end Sys2Proof.Machine
end

