-- ==== Sys2Proof/Laws/Ops.lean ====
section
/-! SUPPORT. One lemma per shared operation: what it can do. -/

namespace Sys2Proof.Machine

/-! Lines and masks. -/

theorem linesOf_getLsbD (b0 b1 b2 b3 b4 b5 : Bool) :
    (linesOf b0 b1 b2 b3 b4 b5).getLsbD 0 = b0 ∧ (linesOf b0 b1 b2 b3 b4 b5).getLsbD 1 = b1 ∧
      (linesOf b0 b1 b2 b3 b4 b5).getLsbD 2 = b2 ∧ (linesOf b0 b1 b2 b3 b4 b5).getLsbD 3 = b3 ∧
      (linesOf b0 b1 b2 b3 b4 b5).getLsbD 4 = b4 ∧ (linesOf b0 b1 b2 b3 b4 b5).getLsbD 5 = b5 := by
  revert b0 b1 b2 b3 b4 b5
  decide

/-- A line that nothing drives reads 1 (20_memory.md R53). -/
theorem pulledUp_undriven (driven level : Lines) (i : Nat) (hi : i < 6) (h : driven.getLsbD i = false) :
    (pulledUp driven level).getLsbD i = true := by
  rw [pulledUp, BitVec.getLsbD_or, BitVec.getLsbD_not, h]
  simp only [hi, decide_true, Bool.not_false, Bool.and_true, Bool.or_true]

/-- A driven line reads the level it is driven to. -/
theorem pulledUp_driven (driven level : Lines) (i : Nat) (h : driven.getLsbD i = true) :
    (pulledUp driven level).getLsbD i = level.getLsbD i := by
  rw [pulledUp, BitVec.getLsbD_or, BitVec.getLsbD_not, h]
  simp only [Bool.not_true, Bool.and_false, Bool.or_false]

theorem State.lineDin_composed (s : State) (h : s.cfg.wiring = .composed) : s.lineDin = s.writer.wDout := by
  simp [State.lineDin, h]

theorem State.lineDin_standAlone (s : State) (h : s.cfg.wiring = .standAlone) :
    s.lineDin = pulledUp s.env.dinDriven s.env.dinLevel := by
  simp [State.lineDin, h]

theorem State.lineSel_composed (s : State) (h : s.cfg.wiring = .composed) : s.lineSel = s.reader.rSel := by
  simp [State.lineSel, h]

theorem State.lineSel_standAlone (s : State) (h : s.cfg.wiring = .standAlone) : s.lineSel = s.env.selIn.getD true := by
  simp [State.lineSel, h]

/-! Conditions. -/

theorem State.cmdReady_iff (s : State) : s.cmdReady = true ↔ s.reader.rPhase = 0 := by
  simp [State.cmdReady]

theorem State.settled_iff (s : State) :
    s.settled = true ↔ (s.cfg.wiring = .composed → s.cfg.settle = .enforced → s.writer.wPrevSel = s.reader.rSel) := by
  unfold State.settled
  cases s.cfg.wiring <;> cases s.cfg.settle <;> simp

theorem State.rateLimited_iff (s : State) :
    s.rateLimited = true ↔ s.reader.rValid = true ∧ (s.env.now - s.reader.rLast).toNat < s.cfg.readDelayMs.toNat := by
  rw [State.rateLimited, Bool.and_eq_true, decide_eq_true_eq, elapsed]

theorem State.edgeSeen_iff (s : State) : s.edgeSeen = true ↔ s.lineSel ≠ s.writer.wPrevSel := by
  simp [State.edgeSeen]

/-! Holds, offers, and the drive step. -/

theorem State.whenSettled_cases (s t : State) :
    (s.settled = true ∧ s.whenSettled t = t) ∨ (s.settled = false ∧ s.whenSettled t = s) := by
  cases h : s.settled <;> simp [State.whenSettled, h]

theorem State.offerReader_cases (s : State) (w : CmdWord) :
    (s.ports.rCmd = none ∧ s.offerReader w = s.withPorts { s.ports with rCmd := some w }) ∨
      ((∃ v, s.ports.rCmd = some v) ∧ s.offerReader w = s) := by
  cases h : s.ports.rCmd <;> simp [State.offerReader, h]

theorem State.offerWriter_cases (s : State) (w : CmdWord) :
    (s.ports.wCmd = none ∧ s.offerWriter w = s.withPorts { s.ports with wCmd := some w }) ∨
      ((∃ v, s.ports.wCmd = some v) ∧ s.offerWriter w = s) := by
  cases h : s.ports.wCmd <;> simp [State.offerWriter, h]

/-- The drive step writes the pattern of the counter's value and nothing else (41_writer.md R133). -/
theorem driveStep_eq (s : State) :
    driveStep s = .next (s.withWriter { s.writer with wDout := patternOf s.writer.wCycle s.writer.wTarget s.cfg.wSix }) := by
  unfold driveStep patternOf
  have h := s.writer.wCycle.isLt
  generalize s.writer.wCycle.toNat = n at h ⊢
  interval_cases n <;> rfl

/-- Everything a SAMPLE can do (41_writer.md R131). -/
theorem execSample_cases (s : State) :
    (s.lineSel = s.writer.wPrevSel ∧ execSample s = .next (s.withPorts { s.ports with wCmd := none })) ∨
      (s.lineSel ≠ s.writer.wPrevSel ∧
        execSample s = .next ((s.withPorts { s.ports with wCmd := none }).withWriter
          { s.writer with
            wPrevSel := s.lineSel
            wCycle := s.writer.wCycle + 1
            wDout := patternOf (s.writer.wCycle + 1) s.writer.wTarget s.cfg.wSix })) := by
  by_cases h : s.lineSel = s.writer.wPrevSel
  · exact .inl ⟨h, by simp [execSample, State.edgeSeen, h]⟩
  · refine .inr ⟨h, ?_⟩
    simp [execSample, State.edgeSeen, h, driveStep_eq]
    rfl

/-- Everything a POLL can do (40_reader.md R100). -/
theorem execPoll_cases (s : State) :
    (s.cmdReady = false ∧ execPoll s = .next s) ∨
      (s.cmdReady = true ∧ s.rateLimited = true ∧
        execPoll s = .next (s.withPorts { s.ports with rCmd := none, resp := s.ports.resp ++ [s.reader.rState] })) ∨
      (s.cmdReady = true ∧ s.rateLimited = false ∧ execPoll s = .next s.takeReaderCmd.startRead) := by
  cases hc : s.cmdReady <;> cases hr : s.rateLimited <;> simp [execPoll, hc, hr]

end Sys2Proof.Machine
end

