-- ==== Sys2Proof/Laws/Exec.lean ====
section
/-! SUPPORT. What an instruction can do: one inversion lemma over exec, from which frames and invariants follow. -/

namespace Sys2Proof.Machine

/-- The drive instruction of a cycle value writes that cycle's pattern. -/
theorem exec_decodeCycle (c : CycleCode) (s : State) :
    exec (decodeCycle c) s =
      .next (s.withWriter { s.writer with wDout := patternOf c s.writer.wTarget s.cfg.wSix }) := by
  unfold decodeCycle patternOf
  have h := c.isLt
  generalize c.toNat = n at h ⊢
  interval_cases n <;> rfl

/-- Every instruction that answers a next state did one of these things. -/
theorem exec_next_cases {i : Instr} {s t : State} (h : exec i s = .next t) :
    (i = .poll ∧
      ((s.cmdReady = false ∧ t = s) ∨
        (s.cmdReady = true ∧ s.rateLimited = true ∧
          t = s.withPorts { s.ports with rCmd := none, resp := s.ports.resp ++ [s.reader.rState] }) ∨
        (s.cmdReady = true ∧ s.rateLimited = false ∧
          t = (s.withPorts { s.ports with rCmd := none }).withReader
            { s.reader with rState := 0x0000, rNow := s.env.now, rPhase := 0x1 }))) ∨
    (∃ d, i = .setstate d ∧
      t = (s.withPorts { s.ports with wCmd := none }).withWriter { s.writer with wTarget := d }) ∨
    (i = .sample ∧
      ((s.lineSel = s.writer.wPrevSel ∧ t = s.withPorts { s.ports with wCmd := none }) ∨
        (s.lineSel ≠ s.writer.wPrevSel ∧
          t = (s.withPorts { s.ports with wCmd := none }).withWriter
            { s.writer with
              wPrevSel := s.lineSel
              wCycle := s.writer.wCycle + 1
              wDout := patternOf (s.writer.wCycle + 1) s.writer.wTarget s.cfg.wSix }))) ∨
    (i = .idle ∧ t = s) ∨
    ((i, t) ∈
      [(.sel0, s.withReader { s.reader with rSel := false, rPhase := 0x2 }),
        (.sel1, s.withReader { s.reader with rSel := true, rPhase := 0x4 }),
        (.sel2, s.withReader { s.reader with rSel := false, rPhase := 0x6 }),
        (.sel3, s.withReader { s.reader with rSel := true, rPhase := 0x8 }),
        (.sel4, s.withReader { s.reader with rSel := false, rPhase := 0xA }),
        (.sel5, s.withReader { s.reader with rSel := true, rPhase := 0xC })]) ∨
    (i ∈ [.smp0, .smp1, .smp2, .smp3, .smp4, .smp5] ∧ s.settled = false ∧ t = s) ∨
    (s.settled = true ∧
      (i, t) ∈
        [(.smp0, s.withReader { s.reader with rPhase := 0x3 }),
          (.smp1, s.withReader { s.reader with rPhase := 0x5 }),
          (.smp2, s.withReader { s.reader with rState := sampleConnect s.reader.rState s.lineDin, rPhase := 0x7 }),
          (.smp3, s.withReader { s.reader with rState := sampleButtons s.reader.rState s.lineDin, rPhase := 0x9 }),
          (.smp4, s.withReader
            { s.reader with rSix := latchSix s.cfg.sixLatch s.reader.rSix s.lineDin, rPhase := 0xB }),
          (.smp5, s.withReader
            { s.reader with rState := sampleExt s.reader.rState s.reader.rSix s.lineDin, rPhase := 0xD })]) ∨
    (i = .done ∧ t = s.finishRead) ∨
    (∃ c, i = decodeCycle c ∧
      t = s.withWriter { s.writer with wDout := patternOf c s.writer.wTarget s.cfg.wSix }) := by
  cases i
  case poll =>
    rcases execPoll_cases s with ⟨hc, e⟩ | ⟨hc, hr, e⟩ | ⟨hc, hr, e⟩ <;> cases e.symm.trans h
    · exact .inl ⟨rfl, .inl ⟨hc, rfl⟩⟩
    · exact .inl ⟨rfl, .inr (.inl ⟨hc, hr, rfl⟩)⟩
    · exact .inl ⟨rfl, .inr (.inr ⟨hc, hr, rfl⟩)⟩
  case setstate d => cases h; exact .inr (.inl ⟨d, rfl, rfl⟩)
  case sample =>
    rcases execSample_cases s with ⟨hl, e⟩ | ⟨hl, e⟩ <;> cases e.symm.trans h
    · exact .inr (.inr (.inl ⟨rfl, .inl ⟨hl, rfl⟩⟩))
    · exact .inr (.inr (.inl ⟨rfl, .inr ⟨hl, rfl⟩⟩))
  case idle => cases h; exact .inr (.inr (.inr (.inl ⟨rfl, rfl⟩)))
  case sel0 | sel1 | sel2 | sel3 | sel4 | sel5 => cases h; exact .inr (.inr (.inr (.inr (.inl (by simp)))))
  case smp0 | smp1 | smp2 | smp3 | smp4 | smp5 =>
    all_goals
      cases hs : s.settled <;>
        simp only [exec, execSmp0, execSmp1, execSmp2, execSmp3, execSmp4, execSmp5, State.whenSettled, hs] at h <;>
        cases h
    all_goals first
      | exact .inr (.inr (.inr (.inr (.inr (.inl ⟨by simp, rfl, rfl⟩)))))
      | exact .inr (.inr (.inr (.inr (.inr (.inr (.inl ⟨rfl, by simp⟩))))))
  case done => cases h; exact .inr (.inr (.inr (.inr (.inr (.inr (.inr (.inl ⟨rfl, rfl⟩)))))))
  case phaseUnusedE | phaseUnusedF => cases h
  case drive0Connect => cases h; exact .inr (.inr (.inr (.inr (.inr (.inr (.inr (.inr ⟨0, rfl, rfl⟩)))))))
  case drive1Buttons => cases h; exact .inr (.inr (.inr (.inr (.inr (.inr (.inr (.inr ⟨1, rfl, rfl⟩)))))))
  case drive2Connect => cases h; exact .inr (.inr (.inr (.inr (.inr (.inr (.inr (.inr ⟨2, rfl, rfl⟩)))))))
  case drive3Buttons => cases h; exact .inr (.inr (.inr (.inr (.inr (.inr (.inr (.inr ⟨3, rfl, rfl⟩)))))))
  case drive4Sixid => cases h; exact .inr (.inr (.inr (.inr (.inr (.inr (.inr (.inr ⟨4, rfl, rfl⟩)))))))
  case drive5Ext => cases h; exact .inr (.inr (.inr (.inr (.inr (.inr (.inr (.inr ⟨5, rfl, rfl⟩)))))))
  case drive6Connect => cases h; exact .inr (.inr (.inr (.inr (.inr (.inr (.inr (.inr ⟨6, rfl, rfl⟩)))))))
  case drive7Buttons => cases h; exact .inr (.inr (.inr (.inr (.inr (.inr (.inr (.inr ⟨7, rfl, rfl⟩)))))))

end Sys2Proof.Machine
end

