-- ==== Sys2Proof/Laws/PerInstr.lean ====
section
/-! SUPPORT. The family RowMatch: the code of every instruction has the format of its opcode-table row and agrees with
the row's match under the row's mask. -/

namespace Sys2Proof.Laws

/-- The code is a command word that agrees with `mtch` under `mask` (30_encoding.md R77). -/
def isCmdRow (c : Code) (mtch mask : CmdWord) : Prop :=
  ∃ w, c = .cmd w ∧ w &&& mask = mtch

/-- The code is the phase code `p` (30_encoding.md R80). -/
def isPhaseRow (c : Code) (p : PhaseCode) : Prop :=
  c = .phase p

/-- The code is the cycle value `v` (30_encoding.md R81). -/
def isCycleRow (c : Code) (v : CycleCode) : Prop :=
  c = .cycle v

namespace RowMatch

/-- The row of spec/opcode_table.json that the instruction's code lies in. -/
def Statement : Instr → Prop
  | .poll => isCmdRow (encode .poll) 0x10000000 0xFFFFFFFF
  | .setstate d => isCmdRow (encode (.setstate d)) 0x20000000 0xFFFF0000
  | .sample => isCmdRow (encode .sample) 0x30000000 0xFFFFFFFF
  | .idle => isPhaseRow (encode .idle) 0x0
  | .sel0 => isPhaseRow (encode .sel0) 0x1
  | .sel1 => isPhaseRow (encode .sel1) 0x3
  | .sel2 => isPhaseRow (encode .sel2) 0x5
  | .sel3 => isPhaseRow (encode .sel3) 0x7
  | .sel4 => isPhaseRow (encode .sel4) 0x9
  | .sel5 => isPhaseRow (encode .sel5) 0xB
  | .smp0 => isPhaseRow (encode .smp0) 0x2
  | .smp1 => isPhaseRow (encode .smp1) 0x4
  | .smp2 => isPhaseRow (encode .smp2) 0x6
  | .smp3 => isPhaseRow (encode .smp3) 0x8
  | .smp4 => isPhaseRow (encode .smp4) 0xA
  | .smp5 => isPhaseRow (encode .smp5) 0xC
  | .done => isPhaseRow (encode .done) 0xD
  | .phaseUnusedE => isPhaseRow (encode .phaseUnusedE) 0xE
  | .phaseUnusedF => isPhaseRow (encode .phaseUnusedF) 0xF
  | .drive0Connect => isCycleRow (encode .drive0Connect) 0
  | .drive1Buttons => isCycleRow (encode .drive1Buttons) 1
  | .drive2Connect => isCycleRow (encode .drive2Connect) 2
  | .drive3Buttons => isCycleRow (encode .drive3Buttons) 3
  | .drive4Sixid => isCycleRow (encode .drive4Sixid) 4
  | .drive5Ext => isCycleRow (encode .drive5Ext) 5
  | .drive6Connect => isCycleRow (encode .drive6Connect) 6
  | .drive7Buttons => isCycleRow (encode .drive7Buttons) 7

theorem poll : Statement .poll := ⟨_, rfl, by decide⟩
theorem setstate (imm16 : PadWord) : Statement (.setstate imm16) := by
  refine ⟨_, rfl, ?_⟩
  have h := @BitVec.and_append 16 16 (0x2#4 ++ 0x0#12) 0xFFFF#16 imm16 0x0000#16
  rw [BitVec.and_zero] at h
  exact h
theorem sample : Statement .sample := ⟨_, rfl, by decide⟩
theorem idle : Statement .idle := rfl
theorem sel0 : Statement .sel0 := rfl
theorem sel1 : Statement .sel1 := rfl
theorem sel2 : Statement .sel2 := rfl
theorem sel3 : Statement .sel3 := rfl
theorem sel4 : Statement .sel4 := rfl
theorem sel5 : Statement .sel5 := rfl
theorem smp0 : Statement .smp0 := rfl
theorem smp1 : Statement .smp1 := rfl
theorem smp2 : Statement .smp2 := rfl
theorem smp3 : Statement .smp3 := rfl
theorem smp4 : Statement .smp4 := rfl
theorem smp5 : Statement .smp5 := rfl
theorem done : Statement .done := rfl
theorem phaseUnusedE : Statement .phaseUnusedE := rfl
theorem phaseUnusedF : Statement .phaseUnusedF := rfl
theorem drive0Connect : Statement .drive0Connect := rfl
theorem drive1Buttons : Statement .drive1Buttons := rfl
theorem drive2Connect : Statement .drive2Connect := rfl
theorem drive3Buttons : Statement .drive3Buttons := rfl
theorem drive4Sixid : Statement .drive4Sixid := rfl
theorem drive5Ext : Statement .drive5Ext := rfl
theorem drive6Connect : Statement .drive6Connect := rfl
theorem drive7Buttons : Statement .drive7Buttons := rfl

end RowMatch

end Sys2Proof.Laws
end

