-- ==== Sys2Proof/Laws/Step.lean ====
section
/-! SUPPORT. What a turn comes to and what a step can do. -/

namespace Sys2Proof.Machine

/-- Everything a Reader's turn can come to. -/
theorem fetchReader_cases (s : State) :
    (s.cmdReady = true ∧ ∃ w i, s.ports.rCmd = some w ∧ decodeFor .reader w = .instr i ∧ fetchReader s = .run i) ∨
      (s.cmdReady = true ∧ ∃ w r, s.ports.rCmd = some w ∧ decodeFor .reader w = .reject r ∧
        fetchReader s = .move s.refuseReaderCmd) ∨
      ((s.cmdReady = false ∨ s.ports.rCmd = none) ∧ fetchReader s = .run (decodePhase s.reader.rPhase)) := by
  cases hc : s.cmdReady with
  | false => simp [fetchReader, hc]
  | true =>
    cases hp : s.ports.rCmd with
    | none => simp [fetchReader, hc, hp]
    | some w => cases hd : decodeFor .reader w <;> simp [fetchReader, hc, hp, hd]

/-- Everything a Writer's turn can come to. -/
theorem fetchWriter_cases (s : State) :
    (s.ports.wCmd = none ∧ fetchWriter s = .move s) ∨
      (∃ w i, s.ports.wCmd = some w ∧ decodeFor .writer w = .instr i ∧ fetchWriter s = .run i) ∨
      (∃ w r, s.ports.wCmd = some w ∧ decodeFor .writer w = .reject r ∧ fetchWriter s = .move s.refuseWriterCmd) := by
  cases hp : s.ports.wCmd with
  | none => simp [fetchWriter, hp]
  | some w => cases hd : decodeFor .writer w <;> simp [fetchWriter, hp, hd]

/-- A step that answers a next state ran an instruction or made a move that runs none, with well-formed pins. -/
theorem step_next_cases {s t : State} (h : step s = .next t) :
    s.pinsOk = true ∧
      ((∃ i, fetch s.nextTurn s.passTurn = .run i ∧ exec i s.passTurn = .next t) ∨
        fetch s.nextTurn s.passTurn = .move t) := by
  unfold step at h
  split at h
  case isFalse => simp at h
  case isTrue hp =>
    refine ⟨hp, ?_⟩
    cases hf : fetch s.nextTurn s.passTurn with
    | run i => rw [hf] at h; exact .inl ⟨i, rfl, h⟩
    | move u => rw [hf] at h; simp at h; exact .inr (by rw [h])

/-- The step of a turn that runs an instruction. -/
theorem step_of_run {s : State} {i : Instr} (hp : s.pinsOk = true) (hf : fetch s.nextTurn s.passTurn = .run i) :
    step s = exec i s.passTurn := by
  simp [step, hp, hf]

/-- The step of a turn that runs none. -/
theorem step_of_move {s t : State} (hp : s.pinsOk = true) (hf : fetch s.nextTurn s.passTurn = .move t) :
    step s = .next t := by
  simp [step, hp, hf]

end Sys2Proof.Machine
end

