-- ==== Sys2Proof/Tests/Slice0.lean ====
section
/-! SUPPORT. Tests: the checks refuse ill-formed terms, written-out words decode, single steps agree with the vectors of
95_test_vectors.md, and every obligation's hypotheses are met by a named state. Expected values come from the spec's
vectors and examples, cited at each test. -/

namespace Sys2Proof.Tests

open Sys2Proof.Machine

/-! ## Small states to test on -/

/-- Pins on fourteen distinct lines. -/
def pinsA : PinAssignment := { sel := 0, d0 := 1, d1 := 2, d2 := 3, d3 := 4, d4 := 5, d5 := 6 }

/-- The second instance's pins. -/
def pinsB : PinAssignment := { sel := 7, d0 := 8, d1 := 9, d2 := 10, d3 := 11, d4 := 12, d5 := 13 }

/-- A reset machine with the given configuration; the read-delay is 5, as in 95_test_vectors.md 2.3. -/
def rig (l : SixLatch) (six : Bool) (e : Settle) (w : Wiring) : State :=
  { State.reset with
    cfg := { readDelayMs := 5, sixLatch := l, wSix := six, settle := e, wiring := w, rPins := pinsA, wPins := pinsB } }

/-- A stand-alone Reader in the given phase with the given word and six-button flag, its lines at `d`. -/
def padRig (l : SixLatch) (p : PhaseCode) (st : PadWord) (six : Bool) (d : Lines) : State :=
  { rig l true .enforced .standAlone with
    reader := { Reader.reset with rPhase := p, rState := st, rSix := six }
    env := { now := 200, dinDriven := 0b111111, dinLevel := d, selIn := none } }

/-- An idle stand-alone Reader that has read, with a POLL waiting: `D`, `r_last`, `now`. -/
def pollRig (D last now : Time) : State :=
  let s := rig .sticky true .enforced .standAlone
  { s with
    cfg := { s.cfg with readDelayMs := D }
    reader := { Reader.reset with rState := 0x0183, rLast := last, rValid := true }
    env := { Environment.reset with now := now }
    ports := { HostPorts.reset with rCmd := some 0x10000000 }
    agenda := [.reader] }

/-- A stand-alone Writer with the given registers, its select input at `v`, and a word on its port. -/
def padWriter (T : PadWord) (c : CycleCode) (prev : Bool) (dout : Lines) (six v : Bool) (cmd : CmdWord) : State :=
  { rig .sticky six .enforced .standAlone with
    writer := { wTarget := T, wCycle := c, wPrevSel := prev, wDout := dout }
    env := { Environment.reset with selIn := some v }
    ports := { HostPorts.reset with wCmd := some cmd }
    agenda := [.writer] }

/-- A composed pair under `ENFORCED` with a full read just started, Writer counter `c`, followed by the turns of the
read. -/
def startedRig (l : SixLatch) (rSix : Bool) (T : PadWord) (c : CycleCode) : State :=
  { rig l true .enforced .composed with
    reader := { Reader.reset with rPhase := 0x1, rSix := rSix }
    writer := { Writer.reset with wTarget := T, wCycle := c }
    agenda := composedReadTurns.drop 1 }

/-- The same pair one turn earlier: the Reader idle with a POLL waiting, the whole read ahead. -/
def idleRig (T : PadWord) (c : CycleCode) : State :=
  { rig .sticky true .enforced .composed with
    writer := { Writer.reset with wTarget := T, wCycle := c }
    ports := { HostPorts.reset with rCmd := some 0x10000000 }
    agenda := composedReadTurns }

/-- A composed pair in the given Reader phase and select level, the Writer having last seen the level `seen`. -/
def pairRig (e : Settle) (p : PhaseCode) (sel seen : Bool) (u : Turn) : State :=
  { rig .sticky true e .composed with
    reader := { Reader.reset with rPhase := p, rSel := sel }
    writer := { Writer.reset with wCycle := if seen then 7 else 0, wPrevSel := seen }
    agenda := [u] }

/-- The next state, if there is one. -/
def after (o : Host.Outcome State Fault Refusal) : Option State :=
  match o with
  | .next t => some t
  | .fault _ => none
  | .refused _ => none

/-! ## The checks refuse ill-formed terms -/

/-- `op` 0 and `op` 4 are no operation (V-E-09, V-E-10). -/
theorem test_wf_op :
    CmdFields.wf { op := 0, rsv := 0, data := 0 } = false ∧ CmdFields.wf { op := 4, rsv := 0, data := 0 } = false ∧
      CmdFields.opKnown { op := 0xF, rsv := 0, data := 0 } = false := by decide

/-- A nonzero reserved field (V-E-03, V-E-06). -/
theorem test_wf_rsv :
    CmdFields.wf { op := 1, rsv := 0x001, data := 0 } = false ∧
      CmdFields.rsvZero { op := 2, rsv := 0x010, data := 0x0183 } = false := by decide

/-- A nonzero `data` outside SETSTATE (V-E-02, V-E-08), and in SETSTATE (V-E-05). -/
theorem test_wf_data :
    CmdFields.wf { op := 1, rsv := 0, data := 1 } = false ∧
      CmdFields.dataAllowed { op := 3, rsv := 0, data := 1 } = false ∧
      CmdFields.wf { op := 2, rsv := 0, data := 0xFFFF } = true := by decide

/-- The unused phase codes are no instruction a step may reach (R163). -/
theorem test_wf_unused : Instr.wf .phaseUnusedE = false ∧ Instr.wf .phaseUnusedF = false := by decide

/-- Two roles on one line (R164). -/
theorem test_wf_pins :
    PinAssignment.wf { pinsA with d5 := 0 } = false ∧ PinAssignment.wf { pinsA with d0 := 2 } = false ∧
      pinsA.wf = true := by decide

/-! ## Written-out words decode -/

/-- The command words of V-E-01, V-E-04, V-E-05, V-E-07. -/
theorem test_decode_commands :
    decodeFor .reader 0x10000000 = .instr .poll ∧ decodeFor .writer 0x20001234 = .instr (.setstate 0x1234) ∧
      decodeFor .writer 0x2000FFFF = .instr (.setstate 0xFFFF) ∧ decodeFor .writer 0x30000000 = .instr .sample := by
  decide

/-- The refused words of V-E-02, V-E-03, V-E-06, V-E-08 to V-E-10. -/
theorem test_decode_refusals :
    decodeFor .reader 0x10000001 = .reject .dataNonzero ∧ decodeFor .reader 0x10010000 = .reject .rsvNonzero ∧
      decodeFor .writer 0x20100183 = .reject .rsvNonzero ∧ decodeFor .writer 0x30000001 = .reject .dataNonzero ∧
      decodeFor .writer 0x00000000 = .reject .reservedOp ∧ decodeFor .reader 0x40000000 = .reject .reservedOp ∧
      decodeFor .writer 0xF0000000 = .reject .reservedOp := by decide

/-- The words sent to the wrong component, V-E-11 to V-E-13. -/
theorem test_decode_wrong_component :
    decodeFor .writer 0x10000000 = .reject .wrongComponent ∧
      decodeFor .reader 0x20000183 = .reject .wrongComponent ∧
      decodeFor .reader 0x30000000 = .reject .wrongComponent := by decide

/-- The phase codes of 30_encoding.md R80: `SEL(k)` has code `1 + 2k`. -/
theorem test_decode_phases :
    [0b0000, 0b0001, 0b0010, 0b0011, 0b0100, 0b0101, 0b0110, 0b0111].map decodePhase =
        [.idle, .sel0, .smp0, .sel1, .smp1, .sel2, .smp2, .sel3] ∧
      [0b1000, 0b1001, 0b1010, 0b1011, 0b1100, 0b1101, 0b1110, 0b1111].map decodePhase =
        [.smp3, .sel4, .smp4, .sel5, .smp5, .done, .phaseUnusedE, .phaseUnusedF] := by decide

/-- The cycle values of 30_encoding.md R75 and R81. -/
theorem test_decode_cycles :
    [0b000, 0b001, 0b010, 0b011, 0b100, 0b101, 0b110, 0b111].map decodeCycle =
      [.drive0Connect, .drive1Buttons, .drive2Connect, .drive3Buttons, .drive4Sixid, .drive5Ext, .drive6Connect,
        .drive7Buttons] := by decide

/-- The encoder writes the words of 30_encoding.md R77, R80 and R81. -/
theorem test_encode :
    encode .poll = .cmd 0x10000000 ∧ encode (.setstate 0x0A55) = .cmd 0x20000A55 ∧ encode .sample = .cmd 0x30000000 ∧
      encode .smp5 = .phase 0xC ∧ encode .drive6Connect = .cycle 6 := by decide

/-- The table's words, each at its own width and at whole bytes (log 7), and words the decoder refuses. -/
theorem test_decodeTableWord :
    decodeTableWord 32 0x20001234 = some (.setstate 0x1234) ∧ decodeTableWord 8 0xD = some .done ∧
      decodeTableWord 4 0xD = some .done ∧ decodeTableWord 3 5 = some .drive5Ext ∧
      decodeTableWord 32 0x40000000 = none ∧ decodeTableWord 8 0x10 = none := by decide

/-! ## POLL -/

/-- The rate limiter's rows that cache: V-R-12, V-R-13, V-R-15. -/
theorem test_poll_cached :
    ∀ s ∈ [pollRig 5 100 100, pollRig 5 100 104, pollRig 5 0xFFFFFFFE 2],
      (after (step s)).map (fun t => (t.ports.resp, t.reader)) = some ([0x0183], s.reader) := by decide

/-- The rows that start a full read: V-R-14, V-R-16, V-R-18, V-R-19; and V-R-20's registers. -/
theorem test_poll_full :
    ∀ s ∈ [pollRig 5 100 105, pollRig 5 0xFFFFFFFE 3, pollRig 0 7 7, pollRig 10 100 50],
      (after (step s)).map (fun t => (t.ports.resp, t.reader)) =
        some ([], { s.reader with rState := 0x0000, rNow := s.env.now, rPhase := 0x1 }) := by decide

/-! ## The Reader's micro-steps -/

/-- R100: a Reader's turn in `IDLE` with no command leaves the registers. -/
theorem test_idle :
    (after (step (pairRig .enforced 0x0 true true .reader))).map (fun t => t.reader) = some Reader.reset := by decide

/-- V-R-21 and R103's example, `SEL(0)` to `SEL(5)`: the level and the next phase. -/
theorem test_sel :
    [0x1, 0x3, 0x5, 0x7, 0x9, 0xB].map (fun p =>
        (after (step (pairRig .enforced p (p.getLsbD 1 == false) true .reader))).map
          (fun t => (t.reader.rSel, t.reader.rPhase))) =
      [some (false, 0x2), some (true, 0x4), some (false, 0x6), some (true, 0x8), some (false, 0xA), some (true, 0xC)] := by
  decide

/-- V-R-22 and V-R-24: cycles 0 and 1 sample nothing, whatever the lines show. -/
theorem test_smp0_smp1 :
    (after (exec .smp0 (padRig .sticky 0x2 0 false 0))).map (fun t => (t.reader.rState, t.reader.rPhase)) =
        some (0x0000, 0x3) ∧
      (after (exec .smp1 (padRig .sticky 0x4 0 false 0))).map (fun t => (t.reader.rState, t.reader.rPhase)) =
        some (0x0000, 0x5) := by decide

/-- V-R-25, and V-R-05: only one of `D2` and `D3` asserted. -/
theorem test_smp2 :
    (after (exec .smp2 (padRig .sticky 0x6 0 false 0b100011))).map (fun t => (t.reader.rState, t.reader.rPhase)) =
        some (0x0081, 0x7) ∧
      (after (exec .smp2 (padRig .sticky 0x6 0 false 0b001011))).map (fun t => t.reader.rState) = some 0x0000 := by
  decide

/-- V-R-26, and V-R-04: not gated by the connection. -/
theorem test_smp3 :
    (after (exec .smp3 (padRig .sticky 0x8 0x0081 false 0b111110))).map (fun t => (t.reader.rState, t.reader.rPhase)) =
        some (0x0083, 0x9) ∧
      (after (exec .smp3 (padRig .sticky 0x8 0x0000 false 0b000000))).map (fun t => t.reader.rState) =
        some 0x007E := by decide

/-- V-R-27. -/
theorem test_smp4_detects :
    (after (exec .smp4 (padRig .sticky 0xA 0 false 0b111100))).map (fun t => (t.reader.rSix, t.reader.rPhase)) =
      some (true, 0xB) := by decide

/-- V-R-28 under both latches. -/
theorem test_smp4_latch :
    (after (exec .smp4 (padRig .sticky 0xA 0 true 0b111111))).map (fun t => t.reader.rSix) = some true ∧
      (after (exec .smp4 (padRig .assign 0xA 0 true 0b111111))).map (fun t => t.reader.rSix) = some false := by decide

/-- V-R-29 and V-R-30. -/
theorem test_smp5 :
    (after (exec .smp5 (padRig .sticky 0xC 0x0083 true 0b110101))).map (fun t => (t.reader.rState, t.reader.rPhase)) =
        some (0x1483, 0xD) ∧
      (after (exec .smp5 (padRig .sticky 0xC 0x0083 false 0b000000))).map (fun t => t.reader.rState) =
        some 0x0083 := by decide

/-- V-R-31. -/
theorem test_done_connected :
    let s := padRig .sticky 0xD 0x1483 true 0
    (after (exec .done { s with reader := { s.reader with rNow := 200 } })).map (fun t => (t.reader, t.ports.resp)) =
      some ({ rState := 0x1483, rSix := true, rLast := 200, rValid := true, rPhase := 0x0, rNow := 200, rSel := true },
        [0x1483]) := by decide

/-- V-R-32. -/
theorem test_done_disconnected :
    let s := padRig .sticky 0xD 0x001E true 0
    (after (exec .done { s with reader := { s.reader with rNow := 300 } })).map
        (fun t => (t.reader.rSix, t.reader.rLast, t.reader.rValid, t.ports.resp)) =
      some (false, 300, true, [0x001E]) := by decide

/-- V-R-33: a POLL offered in `SEL(3)` waits, and the Reader goes on to `SMP(3)`. -/
theorem test_poll_waits_while_busy :
    let s := pollRig 5 100 104
    (after (step { s with reader := { s.reader with rPhase := 0x7 } })).map
        (fun t => (t.reader.rPhase, t.ports.rCmd, t.cmdReady)) =
      some (0x8, some 0x10000000, false) := by decide

/-- V-R-34. -/
theorem test_unused_phase :
    step (pairRig .enforced 0xE true true .reader) = .fault (.unusedPhase 0xE) ∧
      step (pairRig .enforced 0xF true true .reader) = .fault (.unusedPhase 0xF) := ⟨rfl, rfl⟩

/-! ## The Writer -/

/-- The eight patterns a target drives, in cycle order. -/
def patternsOf (T : PadWord) (six : Bool) : List (Option Lines) :=
  [0, 1, 2, 3, 4, 5, 6, 7].map fun c =>
    (after (exec (decodeCycle c) (padWriter T c true 0 six true 0))).map (fun t => t.writer.wDout)

/-- V-W-09: every kind of bit, with six buttons. -/
theorem test_drive_patterns :
    patternsOf 0x0A55 true =
      [some 0b110011, some 0b010101, some 0b110011, some 0b010101, some 0b111100, some 0b111010, some 0b110011,
        some 0b010101] := by decide

/-- V-W-02 (no six-button flag) and V-W-10 (no `CONN`). -/
theorem test_drive_gates :
    patternsOf 0x1FFF false =
        [some 0b000011, some 0b000000, some 0b000011, some 0b000000, some 0b111111, some 0b111111, some 0b000011,
          some 0b000000] ∧
      patternsOf 0x1E00 true = List.replicate 8 (some 0b111111) := by decide

/-- V-W-13 and V-W-14: SETSTATE stores the whole word and moves no line. -/
theorem test_setstate :
    (after (step (padWriter 0x0183 0 false 0b000011 true false 0x20000000))).map (fun t => t.writer) =
        some { wTarget := 0x0000, wCycle := 0, wPrevSel := false, wDout := 0b000011 } ∧
      (after (step (padWriter 0x0183 0 false 0b000011 true false 0x2000E183))).map (fun t => t.writer.wTarget) =
        some 0xE183 := by decide

/-- V-W-13's SAMPLE, and V-W-15: an edge. -/
theorem test_sample_edge :
    (after (step (padWriter 0x0000 0 false 0b000011 true true 0x30000000))).map (fun t => t.writer) =
        some { wTarget := 0x0000, wCycle := 1, wPrevSel := true, wDout := 0b111111 } ∧
      (after (step (padWriter 0x0183 7 true 0b111111 true false 0x30000000))).map (fun t => t.writer) =
        some { wTarget := 0x0183, wCycle := 0, wPrevSel := false, wDout := 0b000011 } := by decide

/-- V-W-05: no edge, nothing changes. -/
theorem test_sample_no_edge :
    let s := padWriter 0x0183 0 false 0b000011 true false 0x30000000
    (after (step s)).map (fun t => t.writer) = some s.writer := by decide

/-- P5: POLL sent to a Writer sets the mark and changes no register. -/
theorem test_refused_word :
    let s := padWriter 0x0183 7 true 0b111111 true true 0x10000000
    (after (step s)).map (fun t => (t.refusalMark, t.writer, t.reader, t.ports)) =
      some (true, s.writer, s.reader, HostPorts.reset) := by decide

/-! ## Lines, pins, fetch -/

/-- R53: lines that nothing drives read 1. -/
theorem test_pull_ups :
    (rig .sticky true .enforced .standAlone).lineDin = 0b111111 ∧
      (rig .sticky true .enforced .standAlone).lineSel = true := by decide

/-- R164: no step with two roles on one line, in either instance. -/
theorem test_malformed_pins :
    let s := pairRig .enforced 0x0 true true .reader
    step { s with cfg := { s.cfg with wPins := { pinsB with d3 := 7 } } } = .refused .malformedPins ∧
      step { s with cfg := { s.cfg with rPins := { pinsA with d1 := 1 } } } = .refused .malformedPins := ⟨rfl, rfl⟩

/-- The placed word is the next step's instruction: POLL, `SMP(5)`, a drive step (log 8). -/
theorem test_withFetchWord :
    let s := rig .sticky true .enforced .composed
    (after (step (s.withFetchWord 32 0x10000000))).map (fun t => t.reader.rPhase) = some 0x1 ∧
      (after (step (s.withFetchWord 8 0xC))).map (fun t => t.reader.rPhase) = some 0xD ∧
      (after (step (s.withFetchWord 3 4))).map (fun t => (t.writer.wCycle, t.writer.wDout)) =
        some (4, 0b111111) := by decide

/-! ## Witnesses: the hypotheses of the obligations are met -/

/-- EncodeOfDecode. -/
theorem witness_EncodeOfDecode : decode (.cmd 0x20001234) = .instr (.setstate 0x1234) := by decide

/-- CommandWordsAccepted: a word on each side of each equivalence. -/
theorem witness_CommandWordsAccepted :
    (0x10000000 : CmdWord) &&& 0xFFFFFFFF = 0x10000000 ∧ (0x2000E183 : CmdWord) &&& 0xFFFF0000 = 0x20000000 ∧
      (0x30000000 : CmdWord) &&& 0xFFFFFFFF = 0x30000000 := by decide

/-- StepRunsPhase: outside `IDLE`, and in `IDLE` with no command. -/
theorem witness_StepRunsPhase :
    let s := pairRig .enforced 0x1 true true .reader
    let r := pairRig .enforced 0x0 true true .reader
    s.pinsOk = true ∧ s.agenda = [.reader] ∧ s.reader.rPhase ≠ 0 ∧ r.pinsOk = true ∧ r.agenda = [.reader] ∧
      r.reader.rPhase = 0 ∧ r.ports.rCmd = none := by decide

/-- StepRunsCommand, the Reader's clause. -/
theorem witness_StepRunsCommand_reader :
    let s := pollRig 5 100 104
    s.pinsOk = true ∧ s.agenda = [.reader] ∧ s.reader.rPhase = 0 ∧ s.ports.rCmd = some 0x10000000 ∧
      decodeFor .reader 0x10000000 = .instr .poll := by decide

/-- StepRunsCommand, the Writer's clause. -/
theorem witness_StepRunsCommand_writer :
    let s := padWriter 0 7 true 0b111111 true true 0x2000FFFF
    s.pinsOk = true ∧ s.agenda = [.writer] ∧ s.ports.wCmd = some 0x2000FFFF ∧
      decodeFor .writer 0x2000FFFF = .instr (.setstate 0xFFFF) := by decide

/-- OutsideTurns: each clause, each host with a free and with a blocked port. -/
theorem witness_OutsideTurns :
    let e := pairRig .enforced 0x0 true true (.environment 9 0b000001 0 (some false))
    let r := pairRig .enforced 0x0 true true (.readerHost 0x10000000)
    let w := pairRig .enforced 0x0 true true (.writerHost 0x30000000)
    e.pinsOk = true ∧ (after (step e)).map (fun t => t.env.now) = some 9 ∧
      (after (step r)).map (fun t => t.ports.rCmd) = some (some 0x10000000) ∧
      (after (step w)).map (fun t => t.ports.wCmd) = some (some 0x30000000) ∧
      (after (step { w with ports := { w.ports with wCmd := some 0x20000000 } })).map (fun t => t.ports.wCmd) =
        some (some 0x20000000) := by decide

/-- EmptyAgendaTakesFreeTurn. -/
theorem witness_EmptyAgendaTakesFreeTurn : State.reset.agenda = [] := rfl

/-- LegalStateAlwaysMoves: the first and the last used phase code. -/
theorem witness_LegalStateAlwaysMoves :
    (pairRig .enforced 0x0 true true .reader).pinsOk = true ∧ (pairRig .enforced 0x0 true true .reader).phaseLegal ∧
      (pairRig .enforced 0xD true true .reader).phaseLegal := ⟨rfl, rfl, rfl⟩

/-- FaultOnlyInUnusedPhase: both codes at a Reader's turn, and the code below them. -/
theorem witness_FaultOnlyInUnusedPhase :
    let s := pairRig .enforced 0xE true true .reader
    s.pinsOk = true ∧ s.nextTurn = .reader ∧ step s = .fault (.unusedPhase 0xE) ∧
      (after (step (pairRig .enforced 0xD true true .reader))).isSome = true := ⟨rfl, rfl, rfl, rfl⟩

/-- LineReads: joined; apart with one line driven low and the rest not driven; the select input driven and not. -/
theorem witness_LineReads :
    let s := rig .sticky true .enforced .standAlone
    (rig .sticky true .enforced .composed).cfg.wiring = .composed ∧ s.cfg.wiring = .standAlone ∧
      s.env.selIn = none ∧
      ({ s with env := { s.env with dinDriven := 0b100000, dinLevel := 0b011111, selIn := some false } } : State).lineDin =
        0b011111 := by decide

/-- PollDispatch: held. -/
theorem witness_PollDispatch_hold : (padRig .sticky 0x1 0 false 0).reader.rPhase ≠ 0 := by decide

/-- PollDispatch: cached, the elapsed time one below the read-delay. -/
theorem witness_PollDispatch_cached :
    let s := pollRig 5 0xFFFFFFFE 2
    s.reader.rPhase = 0 ∧ s.reader.rValid = true ∧
      (s.env.now.toNat + 2 ^ 32 - s.reader.rLast.toNat) % 2 ^ 32 + 1 = s.cfg.readDelayMs.toNat := by decide

/-- PollDispatch: a full read, the elapsed time equal to the read-delay; and no full read yet. -/
theorem witness_PollDispatch_full :
    let s := pollRig 5 0xFFFFFFFE 3
    s.reader.rPhase = 0 ∧ s.cfg.readDelayMs.toNat = (s.env.now.toNat + 2 ^ 32 - s.reader.rLast.toNat) % 2 ^ 32 ∧
      (rig .sticky true .enforced .composed).reader.rPhase = 0 ∧
      (rig .sticky true .enforced .composed).reader.rValid = false := by decide

/-- CachedPollRepeatsLastRead: `r_now` 200, the next POLL at 204, read-delay 5. -/
theorem witness_CachedPollRepeatsLastRead :
    let s := padRig .sticky 0xD 0x1483 true 0
    let r := { s with reader := { s.reader with rNow := 200 } }
    exec .done r = .next r.finishRead ∧
      ((204 : Time).toNat + 2 ^ 32 - r.reader.rNow.toNat) % 2 ^ 32 + 1 = r.cfg.readDelayMs.toNat := ⟨rfl, by decide⟩

/-- EverySelectStepIsAnEdge: the first and the last select phase. -/
theorem witness_EverySelectStepIsAnEdge :
    let s := pairRig .enforced 0x1 true true .reader
    let r := pairRig .enforced 0xB false false .reader
    s.selMatchesPhase ∧ s.nextTurn = .reader ∧ (after (step s)).isSome = true ∧ r.selMatchesPhase ∧
      (after (step r)).isSome = true := ⟨rfl, rfl, rfl, rfl, rfl⟩

/-- SettlingSteps, ConnectionCheckStep, ButtonsStep, SixButtonStep and ExtendedButtonsStep: the settle premise in a
composed pair under `ENFORCED`. -/
theorem witness_SettlePremise_composed :
    let s := pairRig .enforced 0x6 false false .reader
    s.cfg.wiring = .composed ∧ s.cfg.settle = .enforced ∧ s.writer.wPrevSel = s.reader.rSel := by decide

/-- The same five: the premise asks nothing of a stand-alone Reader, nor under `FREE`. -/
theorem witness_SettlePremise_other :
    (padRig .sticky 0x6 0 false 0).cfg.wiring ≠ .composed ∧
      (pairRig .free 0x6 false true .reader).cfg.settle ≠ .enforced := by decide

/-- SixButtonStep: both lines low. -/
theorem witness_SixButtonStep_both :
    let s := padRig .sticky 0xA 0 false 0b111100
    s.cfg.wiring ≠ .composed ∧ s.lineDin.getLsbD 0 = false ∧ s.lineDin.getLsbD 1 = false := by decide

/-- SixButtonStep: one line high under `STICKY`. -/
theorem witness_SixButtonStep_sticky :
    let s := padRig .sticky 0xA 0 true 0b111110
    s.cfg.wiring ≠ .composed ∧ s.lineDin.getLsbD 1 = true ∧ s.cfg.sixLatch = .sticky := by decide

/-- SixButtonStep: one line high under `ASSIGN`. -/
theorem witness_SixButtonStep_assign :
    let s := padRig .assign 0xA 0 true 0b111101
    s.cfg.wiring ≠ .composed ∧ s.lineDin.getLsbD 0 = true ∧ s.cfg.sixLatch = .assign := by decide

/-- UnsettledSampleHolds and HoldLiftedOnlyBySample. -/
theorem witness_UnsettledSampleHolds :
    let s := pairRig .enforced 0x2 false true .reader
    s.cfg.wiring = .composed ∧ s.cfg.settle = .enforced ∧ s.writer.wPrevSel ≠ s.reader.rSel ∧
      isSmpPhase s.reader.rPhase = true ∧ (after (step s)).map (fun t => t.reader) = some s.reader := by decide

/-- HoldLiftedOnlyBySample: the Writer's SAMPLE lifts the hold. -/
theorem witness_HoldLiftedOnlyBySample :
    let s := pairRig .enforced 0xC true false .writer
    let r := { s with ports := { s.ports with wCmd := some 0x30000000 } }
    isSmpPhase r.reader.rPhase = true ∧ r.writer.wPrevSel ≠ r.reader.rSel ∧
      (after (step r)).map (fun t => (t.writer.wPrevSel, t.reader.rSel)) = some (true, true) := by decide

/-- SampleObservesSelect and RepeatedSampleIsIdempotent: no edge. -/
theorem witness_SampleObservesSelect_still :
    let s := padWriter 0x0183 0 false 0b000011 true false 0x30000000
    s.lineSel = s.writer.wPrevSel ∧ (after (exec .sample s)).isSome = true := by decide

/-- SampleObservesSelect, SampleRunsDriveStep and RepeatedSampleIsIdempotent: an edge, the counter wrapping. -/
theorem witness_SampleObservesSelect_edge :
    let s := padWriter 0x0183 7 true 0b111111 true false 0x30000000
    s.lineSel ≠ s.writer.wPrevSel ∧ (after (exec .sample s)).isSome = true := by decide

/-- DisconnectedTargetDrivesHigh. -/
theorem witness_DisconnectedTargetDrivesHigh :
    (padWriter 0x1E00 0 false 0 true false 0).writer.wTarget.getLsbD 0 = false := by decide

/-- ReservedTargetBitsNeverDriven. -/
theorem witness_ReservedTargetBitsNeverDriven :
    (0xE183 : PadWord) &&& 0x1FFF = (padWriter 0x0183 0 false 0 true false 0).writer.wTarget &&& 0x1FFF := by decide

/-- AcceptedCommandLeavesPort and the three frames: a Reader instruction, a Writer command and a drive step answer a next
state. -/
theorem witness_Frames :
    (after (exec .poll (pollRig 5 100 104))).isSome = true ∧
      (after (exec .poll (padRig .sticky 0x1 0 false 0))).isSome = true ∧
      (after (exec .smp2 (padRig .sticky 0x6 0 false 0b100011))).isSome = true ∧
      (after (exec .sample (padWriter 0x0183 7 true 0b111111 true false 0x30000000))).isSome = true ∧
      (after (exec (.setstate 0xFFFF) (padWriter 0 7 true 0b111111 true false 0x2000FFFF))).isSome = true ∧
      (after (exec .drive4Sixid (padWriter 0x0183 4 false 0 true false 0))).isSome = true := by decide

/-- OwnStepsOnly: a turn of neither component, and one of each. -/
theorem witness_OwnStepsOnly :
    let s := pairRig .enforced 0x0 true true (.readerHost 0x10000000)
    s.nextTurn ≠ .reader ∧ s.nextTurn ≠ .writer ∧ (after (step s)).isSome = true ∧
      (after (step (pairRig .enforced 0x1 true true .reader))).isSome = true ∧
      (after (step (pairRig .enforced 0x1 true true .writer))).isSome = true := by decide

/-- StandAloneComponentsAreIndependent: a Writer's turn and a Reader's, apart. -/
theorem witness_StandAloneComponentsAreIndependent :
    let s := padWriter 0x0183 7 true 0b111111 true false 0x30000000
    s.cfg.wiring = .standAlone ∧ s.nextTurn = .writer ∧ (after (step s)).isSome = true ∧
      (pollRig 5 100 104).cfg.wiring = .standAlone ∧ (after (step (pollRig 5 100 104))).isSome = true := by decide

/-- DoutChangesOnlyOnSampledEdge. -/
theorem witness_DoutChangesOnlyOnSampledEdge :
    let s := padWriter 0x0183 7 true 0b111111 true false 0x30000000
    ∃ t, step s = .next t ∧ t.writer.wDout ≠ s.writer.wDout := ⟨_, rfl, by decide⟩

/-- ResponsesOnlyFromPollAndDone: a response of each kind, and a step without one. -/
theorem witness_ResponsesOnlyFromPollAndDone :
    (after (step (pollRig 5 100 104))).map (fun t => t.ports.resp) = some [0x0183] ∧
      (after (step (pairRig .enforced 0xD true true .reader))).map (fun t => t.ports.resp) = some [0x0000] ∧
      (after (step (pairRig .enforced 0xC true true .reader))).map (fun t => t.ports.resp) = some [] := by decide

/-- UnusedPhasesFault: a step from a used code, the last one. -/
theorem witness_UnusedPhasesFault :
    let s := pairRig .enforced 0xD true true .reader
    s.reader.rPhase ≠ 0xE ∧ s.reader.rPhase ≠ 0xF ∧ (after (step s)).isSome = true := by decide

/-- FullReadOrder: the start, the first and the last step forward, the end; a hold; a POLL waiting. -/
theorem witness_FullReadOrder :
    (after (step (pollRig 5 100 105))).map (fun t => t.reader.rPhase) = some 0x1 ∧
      (after (step (pairRig .enforced 0x1 true true .reader))).map (fun t => t.reader.rPhase) = some 0x2 ∧
      (after (step (pairRig .enforced 0xC true true .reader))).map (fun t => t.reader.rPhase) = some 0xD ∧
      (after (step (pairRig .enforced 0xD true true .reader))).map (fun t => t.reader.rPhase) = some 0x0 ∧
      (after (step (pairRig .enforced 0xC true false .reader))).map (fun t => t.reader.rPhase) = some 0xC := by decide

/-- RefusedWordSetsTheMark and OnlyARefusedWordSetsTheMark: the Writer's port. -/
theorem witness_RefusedWordSetsTheMark_writer :
    let s := padWriter 0x0183 7 true 0b111111 true true 0x10000000
    s.pinsOk = true ∧ s.nextTurn = .writer ∧ s.ports.wCmd = some 0x10000000 ∧
      decodeFor .writer 0x10000000 = .reject .wrongComponent ∧ s.refusalMark = false ∧
      (after (step s)).map (fun t => t.refusalMark) = some true := by decide

/-- RefusedWordSetsTheMark and OnlyARefusedWordSetsTheMark: the Reader's port; and a mark already set stays. -/
theorem witness_RefusedWordSetsTheMark_reader :
    let s := pairRig .enforced 0x0 true true .reader
    let r := { s with ports := { s.ports with rCmd := some 0x10000001 } }
    r.pinsOk = true ∧ r.nextTurn = .reader ∧ r.reader.rPhase = 0 ∧
      decodeFor .reader 0x10000001 = .reject .dataNonzero ∧
      (after (step { s with refusalMark := true })).map (fun t => t.refusalMark) = some true := by decide

/-- MalformedPinsHaveNoRun: both clauses. -/
theorem witness_MalformedPinsHaveNoRun :
    ¬({ pinsA with d5 := 0 } : PinAssignment).lines.Nodup ∧ pinsA.lines.Nodup ∧ pinsB.lines.Nodup := by decide

/-- The invariants hold of the reset registers under every configuration. -/
theorem witness_StepKeepsInvariants :
    let s := pairRig .enforced 0x0 true true .reader
    s.Inv ∧ (after (step s)).isSome = true :=
  ⟨⟨rfl, rfl, rfl, fun h _ => absurd h (by decide), rfl⟩, rfl⟩

/-- The invariants also hold inside a full read. -/
theorem witness_StepKeepsInvariants_inRead :
    let s := pairRig .enforced 0x6 false false .reader
    s.Inv ∧ (after (step s)).isSome = true := ⟨⟨rfl, rfl, rfl, fun _ _ => rfl, rfl⟩, rfl⟩

/-- StepMissesNoEdge: a select step from a level the Writer has seen. -/
theorem witness_StepMissesNoEdge :
    let s := pairRig .enforced 0x1 true true .reader
    s.noEdgeMissed ∧ s.cfg.wiring = .composed ∧ s.cfg.settle = .enforced ∧ isSmpPhase s.reader.rPhase = false ∧
      (after (step s)).isSome = true := ⟨fun _ _ _ => rfl, rfl, rfl, rfl, rfl⟩

/-- StandAloneReadIsOneFunction: V-R-07's snapshots. -/
theorem witness_StandAloneReadIsOneFunction :
    let s := pollRig 5 100 105
    let ds : List Lines := [0b111111, 0b111111, 0b110011, 0b111111, 0b111100, 0b110110]
    let r := { s with agenda := standAloneReadTurns 105 none ds }
    r.pinsOk = true ∧ r.cfg.wiring = .standAlone ∧ r.reader.rPhase = 0 ∧ r.ports.rCmd = some 0x10000000 ∧
      r.rateLimited = false ∧
      (after (Host.Core.run Sys2Proof.core 20 r)).map (fun t => t.ports.resp) = some [0x1801] := by decide

/-- ComposedReadRunsToItsEnd: P3, V-S-08. -/
theorem witness_ComposedReadRunsToItsEnd :
    let s := idleRig 0x0A55 7
    s.pinsOk = true ∧ s.cfg.wiring = .composed ∧ s.reader.rPhase = 0 ∧ s.reader.rSel = true ∧
      s.writer.wPrevSel = true ∧ s.ports.rCmd = some 0x10000000 ∧ s.ports.wCmd = none ∧ s.rateLimited = false ∧
      (after (Host.Core.run Sys2Proof.core 26 s)).map (fun t => (t.ports.resp, t.writer)) =
        some ([0x0A55], { wTarget := 0x0A55, wCycle := 5, wPrevSel := true, wDout := 0b111010 }) := by decide

/-- The start of a read meets ReadStarted, and its turns offer no SETSTATE. -/
theorem startedRig_meets (l : SixLatch) (six : Bool) (T : PadWord) (c : CycleCode) :
    (startedRig l six T c).ReadStarted ∧ (startedRig l six T c).noSetstate 25 := by
  refine ⟨⟨rfl, rfl, rfl, rfl, rfl, rfl, rfl⟩, Nat.le_refl 25, ?_, ?_⟩
  · change ∀ w, (none : Option CmdWord) = some w → isSetstateWord w = false
    simp
  change ∀ u ∈ (composedReadTurns.drop 1).take 25, offersSetstate u = false
  decide

/-- EveryScheduleMeetsThePatterns and AlignedReadRoundTrip: V-S-08 from start to end; the first turn gives no response. -/
theorem witness_AlignedReadRoundTrip :
    let s := startedRig .sticky false 0x0A55 7
    s.ReadStarted ∧ s.noSetstate 25 ∧ s.writer.wCycle = 7 ∧
      (after (Host.Core.run Sys2Proof.core 25 s)).map (fun t => (t.ports.resp, t.reader.rPhase, t.reader.rSix)) =
        some ([0x0A55], 0x0, true) ∧
      (after (Host.Core.run Sys2Proof.core 1 s)).map (fun t => (t.ports.resp, t.reader.rPhase)) =
        some ([], 0x2) :=
  ⟨(startedRig_meets _ _ _ _).1, (startedRig_meets _ _ _ _).2, rfl, by decide, by decide⟩

/-- AlignedReadRoundTrip under `ASSIGN`, and the clause on targets: V-S-01, V-S-02. -/
theorem witness_AlignedReadRoundTrip_assign :
    (startedRig .assign true 0x1FFF 7).ReadStarted ∧ (startedRig .assign true 0x1FFF 7).noSetstate 25 ∧
      (after (Host.Core.run Sys2Proof.core 25 (startedRig .assign true 0x1FFF 7))).map
        (fun t => (t.ports.resp, t.reader.rPhase, t.reader.rSix)) = some ([0x1FFF], 0x0, true) ∧
      roundTripWord 0x1FFF false = 0x01FF :=
  ⟨(startedRig_meets _ _ _ _).1, (startedRig_meets _ _ _ _).2, by decide, by decide⟩

/-- MisalignedReadFromFiveOrThree: V-S-11's POLL 2 (`STICKY`, flag set) and V-S-19's POLL 3 (`ASSIGN`). -/
theorem witness_MisalignedReadFromFiveOrThree :
    (startedRig .sticky true 0x0183 5).ReadStarted ∧ (startedRig .sticky true 0x0183 5).noSetstate 25 ∧
      (after (Host.Core.run Sys2Proof.core 25 (startedRig .sticky true 0x0183 5))).map (fun t => t.ports.resp) =
        some [0x0983] ∧
      (startedRig .assign false 0x0A55 3).ReadStarted ∧ (startedRig .assign false 0x0A55 3).noSetstate 25 ∧
      (after (Host.Core.run Sys2Proof.core 25 (startedRig .assign false 0x0A55 3))).map (fun t => t.ports.resp) =
        some [0x0055] :=
  ⟨(startedRig_meets _ _ _ _).1, (startedRig_meets _ _ _ _).2, by decide, (startedRig_meets _ _ _ _).1,
    (startedRig_meets _ _ _ _).2, by decide⟩

/-- MisalignedReadFromOne: V-S-14's POLL 4. -/
theorem witness_MisalignedReadFromOne :
    let s := startedRig .sticky true 0x0A55 1
    s.ReadStarted ∧ s.noSetstate 25 ∧ s.writer.wCycle = 1 ∧
      (after (Host.Core.run Sys2Proof.core 25 s)).map (fun t => (t.ports.resp, t.reader.rPhase, t.reader.rSix)) =
        some ([0x140A], 0x0, false) :=
  ⟨(startedRig_meets _ _ _ _).1, (startedRig_meets _ _ _ _).2, rfl, by decide⟩

/-- LostEdgesAreEven: no change, one, and two of the level since it was seen. -/
theorem witness_LostEdgesAreEven :
    let s := padWriter 0x0183 0 false 0b000011 true false 0x30000000
    let r := padWriter 0x0183 0 false 0b000011 true true 0x30000000
    s.lineSel = (s.writer.wPrevSel ^^ decide (0 % 2 = 1)) ∧ r.lineSel = (r.writer.wPrevSel ^^ decide (1 % 2 = 1)) ∧
      s.lineSel = (s.writer.wPrevSel ^^ decide (2 % 2 = 1)) := by decide

/-- AlternatingSamplesCount: no SAMPLE, and V-W-06's first two edges from reset. -/
theorem witness_AlternatingSamplesCount :
    let s := rig .sticky true .enforced .standAlone
    let r := { s with
      writer := { Writer.reset with wTarget := 0x0183 }
      agenda := sampleTurns 0 0 0 (alternating false 2) }
    s.pinsOk = true ∧ s.cfg.wiring = .standAlone ∧ s.ports.wCmd = none ∧
      s.agenda = sampleTurns 0 0 0 (alternating (!s.writer.wPrevSel) 0) ∧ r.pinsOk = true ∧
      (after (Host.Core.run Sys2Proof.core 6 r)).map (fun t => t.writer) =
        some { wTarget := 0x0183, wCycle := 1, wPrevSel := true, wDout := 0b111110 } := by decide

/-- LateWriterStartsAtCycleZero: the Reader in `SMP(0)`, select low. -/
theorem witness_LateWriterStartsAtCycleZero :
    (pairRig .enforced 0x2 false true .writer).lineSel = false := by decide

end Sys2Proof.Tests
end

section
/-! The turns of the environment and of the two hosts (00_scope.md R20). -/

namespace Sys2Proof.Machine

/-- An offer to the Reader in one form, both for a free port and for a blocked host (log 1). -/
theorem State.offerReader_eq_withPorts (s : State) (w : CmdWord) :
    s.offerReader w = s.withPorts { s.ports with rCmd := some (s.ports.rCmd.getD w) } := by
  obtain ⟨hfree, hoffer⟩ | ⟨⟨v, hwaits⟩, hoffer⟩ := s.offerReader_cases w
  · rw [hoffer, hfree, Option.getD_none]
  · rw [hoffer, hwaits, Option.getD_some, ← hwaits]
    rfl

/-- An offer to the Writer in one form, both for a free port and for a blocked host (log 1). -/
theorem State.offerWriter_eq_withPorts (s : State) (w : CmdWord) :
    s.offerWriter w = s.withPorts { s.ports with wCmd := some (s.ports.wCmd.getD w) } := by
  obtain ⟨hfree, hoffer⟩ | ⟨⟨v, hwaits⟩, hoffer⟩ := s.offerWriter_cases w
  · rw [hoffer, hfree, Option.getD_none]
  · rw [hoffer, hwaits, Option.getD_some, ← hwaits]
    rfl

/-- The step of a turn at the head of the agenda that runs no instruction. -/
theorem step_of_agenda_move {s t : State} {u : Turn} {us : List Turn} (hpins : s.pinsOk = true)
    (hagenda : s.agenda = u :: us) (hfetch : fetch u { s with agenda := us } = .move t) : step s = .next t := by
  apply step_of_move hpins
  rwa [s.nextTurn_of_agenda u us hagenda, s.passTurn_of_agenda u us hagenda]

/-- Settles O7: each of the three turns is a move, and the move is the environment's supply or a host's offer. -/
theorem outsideTurns : Obligations.OutsideTurns := by
  intro s us hpins
  refine ⟨fun now dr lv sel hagenda => ?environment, fun w hagenda => ?readerHost, fun w hagenda => ?writerHost⟩
  case environment => exact step_of_agenda_move hpins hagenda rfl
  case readerHost =>
    exact step_of_agenda_move hpins hagenda (congrArg Fetched.move (State.offerReader_eq_withPorts _ w))
  case writerHost =>
    exact step_of_agenda_move hpins hagenda (congrArg Fetched.move (State.offerWriter_eq_withPorts _ w))

end Sys2Proof.Machine
end

section
/-! What an instruction did, one named case per shape of its effect, and the registers and ports each may change
(10_state.md R22 to R36). -/

namespace Sys2Proof.Machine

/-- The select steps with the level they drive and the phase they go on to (40_reader.md R103). -/
def selectTable : List (Instr × Bool × PhaseCode) :=
  [(.sel0, false, 0x2), (.sel1, true, 0x4), (.sel2, false, 0x6), (.sel3, true, 0x8), (.sel4, false, 0xA),
    (.sel5, true, 0xC)]

/-- The sample steps `SMP(k)` (30_encoding.md R80). -/
def sampleSteps : List Instr :=
  [.smp0, .smp1, .smp2, .smp3, .smp4, .smp5]

/-- The drive steps (30_encoding.md R81). -/
def driveSteps : List Instr :=
  [.drive0Connect, .drive1Buttons, .drive2Connect, .drive3Buttons, .drive4Sixid, .drive5Ext, .drive6Connect,
    .drive7Buttons]

theorem decodeCycle_mem_driveSteps (c : CycleCode) : decodeCycle c ∈ driveSteps := by
  revert c
  decide

/-- The effects an instruction can have on the state `s`: the cases of `exec_next_cases`, each with a name. -/
inductive ExecEffect (s : State) : Instr → State → Prop
  | pollHeld (hbusy : s.reader.rPhase ≠ 0) : ExecEffect s .poll s
  | pollCached (hidle : s.reader.rPhase = 0) (hlimited : s.rateLimited = true) :
      ExecEffect s .poll (s.withPorts { s.ports with rCmd := none, resp := s.ports.resp ++ [s.reader.rState] })
  | pollStart (hidle : s.reader.rPhase = 0) (hfree : s.rateLimited = false) :
      ExecEffect s .poll ((s.withPorts { s.ports with rCmd := none }).withReader
        { s.reader with rState := 0x0000, rNow := s.env.now, rPhase := 0x1 })
  | setstate (d : PadWord) :
      ExecEffect s (.setstate d) ((s.withPorts { s.ports with wCmd := none }).withWriter
        { s.writer with wTarget := d })
  | sampleStill (hstill : s.lineSel = s.writer.wPrevSel) :
      ExecEffect s .sample (s.withPorts { s.ports with wCmd := none })
  | sampleEdge (hedge : s.lineSel ≠ s.writer.wPrevSel) :
      ExecEffect s .sample ((s.withPorts { s.ports with wCmd := none }).withWriter
        { s.writer with
          wPrevSel := s.lineSel
          wCycle := s.writer.wCycle + 1
          wDout := patternOf (s.writer.wCycle + 1) s.writer.wTarget s.cfg.wSix })
  | idle : ExecEffect s .idle s
  | select {x : Instr × Bool × PhaseCode} (hx : x ∈ selectTable) :
      ExecEffect s x.1 (s.withReader { s.reader with rSel := x.2.1, rPhase := x.2.2 })
  | smpHeld {i : Instr} (hi : i ∈ sampleSteps) (hheld : s.settled = false) : ExecEffect s i s
  | smp0 (hsettled : s.settled = true) : ExecEffect s .smp0 (s.withReader { s.reader with rPhase := 0x3 })
  | smp1 (hsettled : s.settled = true) : ExecEffect s .smp1 (s.withReader { s.reader with rPhase := 0x5 })
  | smp2 (hsettled : s.settled = true) :
      ExecEffect s .smp2 (s.withReader
        { s.reader with rState := sampleConnect s.reader.rState s.lineDin, rPhase := 0x7 })
  | smp3 (hsettled : s.settled = true) :
      ExecEffect s .smp3 (s.withReader
        { s.reader with rState := sampleButtons s.reader.rState s.lineDin, rPhase := 0x9 })
  | smp4 (hsettled : s.settled = true) :
      ExecEffect s .smp4 (s.withReader
        { s.reader with rSix := latchSix s.cfg.sixLatch s.reader.rSix s.lineDin, rPhase := 0xB })
  | smp5 (hsettled : s.settled = true) :
      ExecEffect s .smp5 (s.withReader
        { s.reader with rState := sampleExt s.reader.rState s.reader.rSix s.lineDin, rPhase := 0xD })
  | done : ExecEffect s .done s.finishRead
  | drive {i : Instr} {c : CycleCode} (hi : i ∈ driveSteps) (hc : i = decodeCycle c) :
      ExecEffect s i (s.withWriter
        { s.writer with wDout := patternOf c s.writer.wTarget s.cfg.wSix })

theorem exec_next_effect {i : Instr} {s t : State} (h : exec i s = .next t) : ExecEffect s i t := by
  obtain ⟨rfl, hpoll⟩ | ⟨d, rfl, rfl⟩ | ⟨rfl, hsample⟩ | ⟨rfl, rfl⟩ | hselect | ⟨hi, hheld, rfl⟩ |
    ⟨hsettled, hsmp⟩ | ⟨rfl, rfl⟩ | ⟨c, rfl, rfl⟩ := exec_next_cases h
  · obtain ⟨hc, rfl⟩ | ⟨hc, hlimited, rfl⟩ | ⟨hc, hfree, rfl⟩ := hpoll
    · exact .pollHeld (by simpa [State.cmdReady] using hc)
    · exact .pollCached (s.cmdReady_iff.mp hc) hlimited
    · exact .pollStart (s.cmdReady_iff.mp hc) hfree
  · exact .setstate d
  · obtain ⟨hstill, rfl⟩ | ⟨hedge, rfl⟩ := hsample
    · exact .sampleStill hstill
    · exact .sampleEdge hedge
  · exact .idle
  · simp only [List.mem_cons, Prod.mk.injEq, List.not_mem_nil, or_false] at hselect
    obtain ⟨rfl, rfl⟩ | ⟨rfl, rfl⟩ | ⟨rfl, rfl⟩ | ⟨rfl, rfl⟩ | ⟨rfl, rfl⟩ | ⟨rfl, rfl⟩ := hselect
    · exact .select (x := (.sel0, false, 0x2)) (by decide)
    · exact .select (x := (.sel1, true, 0x4)) (by decide)
    · exact .select (x := (.sel2, false, 0x6)) (by decide)
    · exact .select (x := (.sel3, true, 0x8)) (by decide)
    · exact .select (x := (.sel4, false, 0xA)) (by decide)
    · exact .select (x := (.sel5, true, 0xC)) (by decide)
  · exact .smpHeld hi hheld
  · simp only [List.mem_cons, Prod.mk.injEq, List.not_mem_nil, or_false] at hsmp
    obtain ⟨rfl, rfl⟩ | ⟨rfl, rfl⟩ | ⟨rfl, rfl⟩ | ⟨rfl, rfl⟩ | ⟨rfl, rfl⟩ | ⟨rfl, rfl⟩ := hsmp
    · exact .smp0 hsettled
    · exact .smp1 hsettled
    · exact .smp2 hsettled
    · exact .smp3 hsettled
    · exact .smp4 hsettled
    · exact .smp5 hsettled
  · exact .done
  · exact .drive (decodeCycle_mem_driveSteps c) rfl

/-- Settles O38: every effect is an update of the Reader, of the Writer or of the ports. -/
theorem instructionOuterFrame : Obligations.InstructionOuterFrame := by
  intro i s t h
  cases exec_next_effect h <;> simp

/-- Settles O35: only the effects of POLL in `IDLE`, SETSTATE and SAMPLE empty a port. -/
theorem acceptedCommandLeavesPort : Obligations.AcceptedCommandLeavesPort := by
  intro i s t h
  cases exec_next_effect h with
  | pollHeld hbusy => exact ⟨(if_neg fun hpoll => hbusy hpoll.2).symm, by simp, by simp⟩
  | pollCached hidle | pollStart hidle => simp [hidle]
  | setstate | sampleStill | sampleEdge | idle | smp0 | smp1 | smp2 | smp3 | smp4 | smp5 | done => simp
  | select hx => fin_cases hx <;> simp
  | smpHeld hi | drive hi => fin_cases hi <;> simp

/-- Settles O36: a hold or an idle wait changes nothing, a Writer effect no Reader register and no response, and each
Reader effect names the registers it writes. -/
theorem readerRegisterFrame : Obligations.ReaderRegisterFrame := by
  intro i s t h
  cases exec_next_effect h with
  | pollHeld | idle | smpHeld => simp
  | setstate | sampleStill | sampleEdge | drive => simp
  | pollCached | pollStart | smp0 | smp1 | smp2 | smp3 | smp4 | smp5 | done => simp
  | select hx => fin_cases hx <;> simp

/-- Settles O37: a Reader effect leaves the Writer, and each Writer effect names the registers it writes. -/
theorem writerRegisterFrame : Obligations.WriterRegisterFrame := by
  intro i s t h
  cases exec_next_effect h with
  | drive hi => fin_cases hi <;> simp
  | setstate | sampleStill | sampleEdge => simp
  | pollHeld | pollCached | pollStart | idle | select | smpHeld | smp0 | smp1 | smp2 | smp3 | smp4 | smp5 | done => simp

end Sys2Proof.Machine
end

section
/-! What a turn fetches: an instruction in its place, or a move that writes no register. -/

namespace Sys2Proof.Machine

theorem encode_decodePhase (p : PhaseCode) : encode (decodePhase p) = .phase p := by
  revert p
  decide

theorem acceptedBy_of_decodeFor {c : Component} {w : CmdWord} {i : Instr} (h : decodeFor c w = .instr i) :
    acceptedBy i c = true := by
  cases hw : decodeCmd w with
  | instr j =>
    by_cases haccepts : acceptedBy j c = true
    · simp only [decodeFor, hw, haccepts, if_true, Decoded.instr.injEq] at h
      exact h ▸ haccepts
    · simp [decodeFor, hw, haccepts] at h
  | reject r => simp [decodeFor, hw] at h

theorem encode_ne_phase_of_acceptedBy {i : Instr} {c : Component} (h : acceptedBy i c = true) (p : PhaseCode) :
    encode i ≠ .phase p := by
  cases i
  case poll | setstate | sample => simp [encode]
  all_goals simp [acceptedBy] at h

/-- A micro-step runs only in its own phase. -/
theorem phase_of_fetch_run {u : Turn} {s : State} {i : Instr} {p : PhaseCode} (h : fetch u s = .run i)
    (hp : encode i = .phase p) : s.reader.rPhase = p := by
  cases u with
  | reader =>
    obtain ⟨-, w, j, -, hj, hfetch⟩ | ⟨-, w, r, -, -, hfetch⟩ | ⟨-, hfetch⟩ := fetchReader_cases s <;>
      cases hfetch.symm.trans h
    · exact absurd hp (encode_ne_phase_of_acceptedBy (acceptedBy_of_decodeFor hj) p)
    · exact Code.phase.inj ((encode_decodePhase _).symm.trans hp)
  | writer =>
    obtain ⟨-, hfetch⟩ | ⟨w, j, -, hj, hfetch⟩ | ⟨w, r, -, -, hfetch⟩ := fetchWriter_cases s <;>
      cases hfetch.symm.trans h
    exact absurd hp (encode_ne_phase_of_acceptedBy (acceptedBy_of_decodeFor hj) p)
  | readerHost | writerHost | environment => cases h

/-- A move that runs no instruction writes no register. -/
theorem registers_of_fetch_move {u : Turn} {s t : State} (h : fetch u s = .move t) :
    t.reader = s.reader ∧ t.writer = s.writer := by
  cases u with
  | reader =>
    obtain ⟨-, w, j, -, -, hfetch⟩ | ⟨-, w, r, -, -, hfetch⟩ | ⟨-, hfetch⟩ := fetchReader_cases s <;>
      cases hfetch.symm.trans h
    exact ⟨rfl, rfl⟩
  | writer =>
    obtain ⟨-, hfetch⟩ | ⟨w, j, -, -, hfetch⟩ | ⟨w, r, -, -, hfetch⟩ := fetchWriter_cases s <;>
      cases hfetch.symm.trans h <;> exact ⟨rfl, rfl⟩
  | readerHost w =>
    cases h
    simp [State.offerReader_eq_withPorts]
  | writerHost w =>
    cases h
    simp [State.offerWriter_eq_withPorts]
  | environment =>
    cases h
    exact ⟨rfl, rfl⟩

end Sys2Proof.Machine
end

section
/-! The register invariants (10_state.md R40, R41; 41_writer.md R142; 60_exceptions.md R163): they hold at reset, and
every step keeps them. -/

namespace Sys2Proof.Machine

/-! Sampling never touches the reserved bits of `r_state` (10_state.md R41). -/

theorem maskIf_reserved (b : Bool) {m : PadWord} (hm : m.extractLsb' 13 3 = 0) :
    (maskIf b m).extractLsb' 13 3 = 0 := by
  cases b
  · exact BitVec.extractLsb'_zero
  · exact hm

theorem sampleConnect_reserved (st : PadWord) (d : Lines) :
    (sampleConnect st d).extractLsb' 13 3 = st.extractLsb' 13 3 := by
  have hconn := maskIf_reserved (connSeen d) (m := maskConn) rfl
  have ha := maskIf_reserved (asserted d 4) (m := maskA) rfl
  have hstart := maskIf_reserved (asserted d 5) (m := maskStart) rfl
  simp only [sampleConnect]
  split <;> simp [BitVec.extractLsb'_or, hconn, ha, hstart]

theorem sampleButtons_reserved (st : PadWord) (d : Lines) :
    (sampleButtons st d).extractLsb' 13 3 = st.extractLsb' 13 3 := by
  have hbuttons : ((~~~d).setWidth 16 <<< 1).extractLsb' 13 3 = 0 := by
    revert d
    decide
  rw [sampleButtons, BitVec.extractLsb'_or, hbuttons]
  exact BitVec.or_zero

theorem sampleExt_reserved (st : PadWord) (six : Bool) (d : Lines) :
    (sampleExt st six d).extractLsb' 13 3 = st.extractLsb' 13 3 := by
  have hz := maskIf_reserved (asserted d 0) (m := maskZ) rfl
  have hy := maskIf_reserved (asserted d 1) (m := maskY) rfl
  have hx := maskIf_reserved (asserted d 2) (m := maskX) rfl
  have hmode := maskIf_reserved (asserted d 3) (m := maskMode) rfl
  cases six
  · rfl
  · simp [sampleExt, BitVec.extractLsb'_or, hz, hy, hx, hmode]

/-! The invariants speak of the Reader's and the Writer's registers only. -/

theorem State.Inv.of_registers {s t : State} (h : s.Inv) (hr : t.reader = s.reader) (hw : t.writer = s.writer) :
    t.Inv := by
  obtain ⟨hlegal, hsel, hreserved, hclear, hparity⟩ := h
  constructor
  · rwa [State.phaseLegal, hr]
  · rwa [State.selMatchesPhase, hr]
  · rwa [State.padReservedZero, hr]
  · rwa [State.padClearAtStart, hr]
  · rwa [State.cycleParity, hw]

theorem State.Inv.withPorts {s : State} (h : s.Inv) (p : HostPorts) : (s.withPorts p).Inv :=
  h.of_registers rfl rfl

theorem State.Inv.withWriter {s : State} (h : s.Inv) {w : Writer} (hparity : w.wCycle.getLsbD 0 = w.wPrevSel) :
    (s.withWriter w).Inv :=
  ⟨h.phaseLegal, h.selMatchesPhase, h.padReservedZero, h.padClearAtStart, hparity⟩

/-- A POLL that starts a full read: select is high in `IDLE` and the word is cleared (40_reader.md R102). -/
theorem State.Inv.startRead {s : State} (h : s.Inv) (hidle : s.reader.rPhase = 0) : s.startRead.Inv := by
  refine ⟨rfl, ?_, BitVec.extractLsb'_zero, fun _ _ => rfl, h.cycleParity⟩
  simpa [State.selMatchesPhase, hidle] using h.selMatchesPhase

/-- Each select step of the table drives the level of the phase it goes on to, a used code, and in cycles 0 to 2 comes
from a phase in which the word is still clear. -/
theorem selectTable_phases :
    ∀ x ∈ selectTable, ∃ p, encode x.1 = .phase p ∧
      (decodePhase x.2.2).wf = true ∧ x.2.1 = !x.2.2.getLsbD 1 ∧
        (x.2.2.toNat ≤ 6 → 1 ≤ p.toNat ∧ p.toNat ≤ 6) := by
  decide

theorem State.Inv.select {s : State} (h : s.Inv) {x : Instr × Bool × PhaseCode} (hx : x ∈ selectTable)
    (hphase : ∀ p, encode x.1 = .phase p → s.reader.rPhase = p) :
    (s.withReader { s.reader with rSel := x.2.1, rPhase := x.2.2 }).Inv := by
  obtain ⟨p, hcode, hlegal, hsel, hearly⟩ := selectTable_phases x hx
  obtain rfl := hphase p hcode
  refine ⟨hlegal, hsel, h.padReservedZero, fun _ hle => ?_, h.cycleParity⟩
  exact h.padClearAtStart (hearly hle).1 (hearly hle).2

/-- A sample step goes on to a used code with the same select level. -/
theorem isSmpPhase_succ :
    ∀ p, isSmpPhase p = true →
      (decodePhase (p + 1)).wf = true ∧ (p + 1).getLsbD 1 = p.getLsbD 1 ∧ 1 ≤ p.toNat ∧
        (p + 1).toNat = p.toNat + 1 := by
  decide

/-- A sample step that fires keeps the invariants when the word it leaves has the reserved bits it found, and up to
cycle 1 is the word it found. -/
theorem State.Inv.sample {s : State} (h : s.Inv) {p : PhaseCode} (hp : s.reader.rPhase = p)
    (hsmp : isSmpPhase p = true) {st : PadWord} {six : Bool}
    (hreserved : st.extractLsb' 13 3 = s.reader.rState.extractLsb' 13 3)
    (hearly : p.toNat < 6 → st = s.reader.rState) :
    (s.withReader { s.reader with rState := st, rSix := six, rPhase := p + 1 }).Inv := by
  subst hp
  obtain ⟨hlegal, hbit, hpos, hsucc⟩ := isSmpPhase_succ _ hsmp
  refine ⟨hlegal, ?_, hreserved.trans h.padReservedZero, fun _ hle => ?_, h.cycleParity⟩
  · exact h.selMatchesPhase.trans (congrArg (!·) hbit.symm)
  · change (s.reader.rPhase + 1).toNat ≤ 6 at hle
    exact (hearly (by omega)).trans (h.padClearAtStart hpos (by omega))

/-- `DONE` goes back to `IDLE` with select high (40_reader.md R110). -/
theorem State.Inv.finishRead {s : State} (h : s.Inv) (hdone : s.reader.rPhase = 0xD) : s.finishRead.Inv := by
  refine ⟨rfl, ?_, h.padReservedZero, fun hle => absurd hle (Nat.not_succ_le_zero 0), h.cycleParity⟩
  simpa [State.selMatchesPhase, hdone] using h.selMatchesPhase

/-- Counting an edge flips both the counter's low bit and the level seen (41_writer.md R142). -/
theorem getLsbD_zero_add_one {c : CycleCode} {prev v : Bool} (h : c.getLsbD 0 = prev) (hv : v ≠ prev) :
    (c + 1).getLsbD 0 = v := by
  revert c prev v
  decide

/-- An instruction that runs in its place keeps the register invariants. -/
theorem exec_keeps_inv {i : Instr} {s t : State} (hexec : exec i s = .next t)
    (hphase : ∀ p, encode i = .phase p → s.reader.rPhase = p) (h : s.Inv) : t.Inv := by
  cases exec_next_effect hexec with
  | pollHeld | idle | smpHeld => exact h
  | pollCached | sampleStill => exact h.withPorts _
  | pollStart hidle => exact (h.withPorts _).startRead hidle
  | setstate => exact (h.withPorts _).withWriter h.cycleParity
  | drive => exact h.withWriter h.cycleParity
  | sampleEdge hedge => exact (h.withPorts _).withWriter (getLsbD_zero_add_one h.cycleParity hedge)
  | select hx => exact h.select hx hphase
  | smp0 => exact h.sample (hphase 0x2 rfl) rfl rfl fun _ => rfl
  | smp1 => exact h.sample (hphase 0x4 rfl) rfl rfl fun _ => rfl
  | smp2 => exact h.sample (hphase 0x6 rfl) rfl (sampleConnect_reserved _ _) fun hlt => absurd hlt (by decide)
  | smp3 => exact h.sample (hphase 0x8 rfl) rfl (sampleButtons_reserved _ _) fun hlt => absurd hlt (by decide)
  | smp4 => exact h.sample (hphase 0xA rfl) rfl rfl fun _ => rfl
  | smp5 => exact h.sample (hphase 0xC rfl) rfl (sampleExt_reserved _ _ _) fun hlt => absurd hlt (by decide)
  | done => exact h.finishRead (hphase 0xD rfl)

/-- Settles O49: reset is `IDLE` with select high, a clear word, and counter 7 beside a level seen high. -/
theorem invariantsAtReset : Obligations.InvariantsAtReset := by
  exact ⟨⟨rfl, rfl, rfl, fun hle => absurd hle (by decide), rfl⟩, fun _ _ _ => rfl⟩

/-- Settles O50: a step runs an instruction in its place, or makes a move that writes no register. -/
theorem stepKeepsInvariants : Obligations.StepKeepsInvariants := by
  intro s t h hstep
  have hpass : s.passTurn.Inv := h.of_registers s.passTurn_reader s.passTurn_writer
  obtain ⟨-, ⟨i, hrun, hexec⟩ | hmove⟩ := step_next_cases hstep
  · exact exec_keeps_inv hexec (fun p hp => phase_of_fetch_run hrun hp) hpass
  · obtain ⟨hr, hw⟩ := registers_of_fetch_move hmove
    exact hpass.of_registers hr hw

end Sys2Proof.Machine
end

section
/-! Held sample steps, line reads, the cached POLL and the free turn (20_memory.md R53 to R58, R63). Each effect of
`ExecEffect` fixes what `exec` answers. -/

namespace Sys2Proof.Machine

/-- The converse of `exec_next_effect`. -/
theorem ExecEffect.exec_eq {i : Instr} {s t : State} (h : ExecEffect s i t) : exec i s = .next t := by
  cases h with
  | pollHeld hbusy =>
    have hready : s.cmdReady = false := Bool.eq_false_iff.mpr fun hc => hbusy (s.cmdReady_iff.mp hc)
    simp [exec, execPoll, hready]
  | pollCached hidle hlimited => simp [exec, execPoll, s.cmdReady_iff.mpr hidle, hlimited]
  | pollStart hidle hfree => simp [exec, execPoll, s.cmdReady_iff.mpr hidle, hfree]
  | sampleStill hstill =>
    obtain ⟨-, hexec⟩ | ⟨hedge, -⟩ := execSample_cases s
    · exact hexec
    · exact absurd hstill hedge
  | sampleEdge hedge =>
    obtain ⟨hstill, -⟩ | ⟨-, hexec⟩ := execSample_cases s
    · exact absurd hstill hedge
    · exact hexec
  | setstate | idle | done => rfl
  | select hx => fin_cases hx <;> rfl
  | smpHeld hi hheld =>
    have hkeeps (fired : State) : s.whenSettled fired = s := by simp [State.whenSettled, hheld]
    fin_cases hi <;> exact congrArg Host.Outcome.next (hkeeps _)
  | smp0 hsettled | smp1 hsettled | smp2 hsettled | smp3 hsettled | smp4 hsettled | smp5 hsettled =>
    exact congrArg Host.Outcome.next (if_pos hsettled)
  | drive hi hc => exact hc ▸ exec_decodeCycle _ s

/-- Settles O22: with the settle premise false, every sample step is a hold. -/
theorem unsettledSampleHolds : Obligations.UnsettledSampleHolds := by
  intro s hcomposed henforced hunseen i hi
  have hheld : s.settled = false :=
    Bool.eq_false_iff.mpr fun hsettled => hunseen (s.settled_iff.mp hsettled hcomposed henforced)
  exact ExecEffect.exec_eq (.smpHeld hi hheld)

/-- Settles O11: joined, a line is the register that drives it; apart, the pull-up or the level driven. -/
theorem lineReads : Obligations.LineReads := by
  intro s
  refine ⟨fun hcomposed => ⟨s.lineDin_composed hcomposed, s.lineSel_composed hcomposed⟩,
    fun hapart => ⟨fun i hi => ?_, fun hnone => ?_, fun v hsome => ?_⟩⟩
  · rw [s.lineDin_standAlone hapart]
    cases hdriven : s.env.dinDriven.getLsbD i
    · simp [pulledUp_undriven _ _ i hi hdriven]
    · simp [pulledUp_driven _ _ i hdriven]
  · rw [s.lineSel_standAlone hapart, hnone, Option.getD_none]
  · rw [s.lineSel_standAlone hapart, hsome, Option.getD_some]

/-- The elapsed time as 40_reader.md R101 writes it. -/
theorem elapsed_toNat (now last : Time) :
    (elapsed now last).toNat = (now.toNat + 2 ^ 32 - last.toNat) % 2 ^ 32 := by
  rw [elapsed]
  bv_omega

/-- Settles O13: after `DONE` the Reader is idle with a completed read, its timestamp is that read's `r_now`, and
`r_state` is the word responded, so a POLL inside the read-delay takes the cached branch. -/
theorem cachedPollRepeatsLastRead : Obligations.CachedPollRepeatsLastRead := by
  intro s t e w hdone hinside
  cases hdone
  rw [← elapsed_toNat] at hinside
  have hlimited : ({ s.finishRead with env := e, writer := w } : State).rateLimited = true :=
    (State.rateLimited_iff _).mpr ⟨rfl, hinside⟩
  exact ⟨rfl, _, ExecEffect.exec_eq (.pollCached rfl hlimited), rfl, rfl⟩

/-- A step depends on the pin check, the next turn and the state that turn is carried out in. -/
theorem step_congr {s r : State} (hpins : s.pinsOk = r.pinsOk) (hturn : s.nextTurn = r.nextTurn)
    (hpass : s.passTurn = r.passTurn) : step s = step r := by
  rw [step, step, hpins, hturn, hpass]

/-- Settles O8: both states take the free turn at `turnNo`, and both carry it out in the same state. -/
theorem emptyAgendaTakesFreeTurn : Obligations.EmptyAgendaTakesFreeTurn := by
  intro s hempty
  refine step_congr rfl ?_ ?_
  · simp [State.nextTurn, hempty]
  · simp [State.passTurn, hempty]

end Sys2Proof.Machine
end

section
/-! Each instance's state changes only by its own steps (20_memory.md R59): who runs what, and what a move leaves. -/

namespace Sys2Proof.Machine

theorem acceptedBy_reader_iff (i : Instr) : acceptedBy i .reader = true ↔ i = .poll := by
  cases i <;> simp [acceptedBy]

theorem acceptedBy_writer_iff (i : Instr) : acceptedBy i .writer = true ↔ i = .sample ∨ ∃ d, i = .setstate d := by
  cases i <;> simp [acceptedBy]

/-- Only the two components run instructions: the Reader POLL or the micro-step of its phase, the Writer its commands. -/
theorem fetch_run_cases {u : Turn} {s : State} {i : Instr} (h : fetch u s = .run i) :
    (u = .reader ∧ (i = .poll ∨ i = decodePhase s.reader.rPhase)) ∨
      (u = .writer ∧ (i = .sample ∨ ∃ d, i = .setstate d)) := by
  cases u with
  | reader =>
    obtain ⟨-, w, j, -, hj, hfetch⟩ | ⟨-, w, r, -, -, hfetch⟩ | ⟨-, hfetch⟩ := fetchReader_cases s <;>
      cases hfetch.symm.trans h
    · exact .inl ⟨rfl, .inl ((acceptedBy_reader_iff i).mp (acceptedBy_of_decodeFor hj))⟩
    · exact .inl ⟨rfl, .inr rfl⟩
  | writer =>
    obtain ⟨-, hfetch⟩ | ⟨w, j, -, hj, hfetch⟩ | ⟨w, r, -, -, hfetch⟩ := fetchWriter_cases s <;>
      cases hfetch.symm.trans h
    exact .inr ⟨rfl, (acceptedBy_writer_iff i).mp (acceptedBy_of_decodeFor hj)⟩
  | readerHost | writerHost | environment => cases h

/-- A move that runs no instruction writes the ports, the environment's inputs and the refusal mark at most. -/
theorem fetch_move_eq {u : Turn} {s t : State} (h : fetch u s = .move t) :
    ∃ p e m, t = { s with ports := p, env := e, refusalMark := m } := by
  cases u with
  | reader =>
    obtain ⟨-, w, i, -, -, hfetch⟩ | ⟨-, w, r, -, -, hfetch⟩ | ⟨-, hfetch⟩ := fetchReader_cases s <;>
      cases hfetch.symm.trans h
    exact ⟨_, _, _, rfl⟩
  | writer =>
    obtain ⟨-, hfetch⟩ | ⟨w, i, -, -, hfetch⟩ | ⟨w, r, -, -, hfetch⟩ := fetchWriter_cases s <;>
      cases hfetch.symm.trans h <;> exact ⟨_, _, _, rfl⟩
  | readerHost w =>
    cases h
    exact ⟨_, _, _, s.offerReader_eq_withPorts w⟩
  | writerHost w =>
    cases h
    exact ⟨_, _, _, s.offerWriter_eq_withPorts w⟩
  | environment =>
    cases h
    exact ⟨_, _, _, rfl⟩

/-- POLL and the micro-steps of the Reader leave the Writer. -/
theorem writer_of_exec_readerStep {i : Instr} {p : PhaseCode} {s t : State} (hi : i = .poll ∨ i = decodePhase p)
    (h : exec i s = .next t) : t.writer = s.writer := by
  obtain ⟨-, -, -, hframe⟩ := writerRegisterFrame i s t h
  obtain rfl | hphase := hi
  · exact hframe (by decide)
  have hcode : encode i = .phase p := hphase ▸ encode_decodePhase p
  apply hframe
  cases i
  case phaseUnusedE | phaseUnusedF => cases h
  case poll | setstate | sample => cases hcode
  case drive0Connect | drive1Buttons | drive2Connect | drive3Buttons | drive4Sixid | drive5Ext | drive6Connect |
    drive7Buttons => cases hcode
  all_goals decide

/-- A command of the Writer leaves the Reader. -/
theorem reader_of_exec_writerCommand {i : Instr} {s t : State} (hi : i = .sample ∨ ∃ d, i = .setstate d)
    (h : exec i s = .next t) : t.reader = s.reader := by
  obtain ⟨-, -, -, -, -, hframe, -⟩ := readerRegisterFrame i s t h
  obtain rfl | ⟨d, rfl⟩ := hi <;> exact hframe (by simp)

/-- Settles O39: a Reader's turn runs POLL or a micro-step, a Writer's turn a Writer command, and a move writes no
register. -/
theorem ownStepsOnly : Obligations.OwnStepsOnly := by
  intro s t hstep
  obtain ⟨-, ⟨i, hrun, hexec⟩ | hmove⟩ := step_next_cases hstep
  · obtain ⟨hcfg, -⟩ := instructionOuterFrame i _ t hexec
    refine ⟨hcfg.trans s.passTurn_cfg, ?_⟩
    obtain ⟨hturn, hi⟩ | ⟨hturn, hi⟩ := fetch_run_cases hrun
    · exact ⟨fun hother => absurd hturn hother,
        fun _ => (writer_of_exec_readerStep hi hexec).trans s.passTurn_writer⟩
    · exact ⟨fun _ => (reader_of_exec_writerCommand hi hexec).trans s.passTurn_reader,
        fun hother => absurd hturn hother⟩
  · obtain ⟨p, e, m, rfl⟩ := fetch_move_eq hmove
    exact ⟨s.passTurn_cfg, fun _ => s.passTurn_reader, fun _ => s.passTurn_writer⟩

end Sys2Proof.Machine
end

section
/-! The stand-alone wiring (20_memory.md R52, R55): a step commutes with replacing the Writer, up to the Writer's registers,
and a Writer's turn commutes with replacing the Reader. -/

namespace Sys2Proof.Machine

/-- What a turn comes to, with the state a move leaves changed by `f`. -/
def Fetched.map (f : State → State) : Fetched → Fetched
  | .run i => .run i
  | .move t => .move (f t)

/-! Replacing the Writer. -/

theorem State.lineDin_withWriter {s : State} (hapart : s.cfg.wiring = .standAlone) (w : Writer) :
    (s.withWriter w).lineDin = s.lineDin :=
  ((s.withWriter w).lineDin_standAlone hapart).trans (s.lineDin_standAlone hapart).symm

theorem State.settled_standAlone {s : State} (hapart : s.cfg.wiring = .standAlone) : s.settled = true :=
  s.settled_iff.mpr fun hcomposed => absurd (hapart.symm.trans hcomposed) (by decide)

theorem State.passTurn_withWriter (s : State) (w : Writer) : (s.withWriter w).passTurn = s.passTurn.withWriter w := by
  cases hagenda : s.agenda <;> simp only [State.passTurn, State.withWriter_agenda, hagenda] <;> rfl

theorem State.offerReader_withWriter (s : State) (w : Writer) (v : CmdWord) :
    (s.withWriter w).offerReader v = (s.offerReader v).withWriter w := by
  simp only [State.offerReader_eq_withPorts]
  rfl

theorem State.offerWriter_withWriter (s : State) (w : Writer) (v : CmdWord) :
    (s.withWriter w).offerWriter v = (s.offerWriter v).withWriter w := by
  simp only [State.offerWriter_eq_withPorts]
  rfl

theorem fetchReader_withWriter (s : State) (w : Writer) :
    fetchReader (s.withWriter w) = (fetchReader s).map (·.withWriter w) := by
  have hready : (s.withWriter w).cmdReady = s.cmdReady := rfl
  obtain ⟨hc, v, i, hv, hi, hfetch⟩ | ⟨hc, v, r, hv, hr, hfetch⟩ | ⟨hc | hv, hfetch⟩ := fetchReader_cases s <;>
    rw [hfetch]
  · simp [fetchReader, hready, hc, hv, hi, Fetched.map]
  · simp only [fetchReader, hready, hc, State.withWriter_ports, hv, hr]
    rfl
  · simp [fetchReader, hready, hc, Fetched.map]
  · simp [fetchReader, hv, Fetched.map]

theorem fetchWriter_withWriter (s : State) (w : Writer) :
    fetchWriter (s.withWriter w) = (fetchWriter s).map (·.withWriter w) := by
  obtain ⟨hv, hfetch⟩ | ⟨v, i, hv, hi, hfetch⟩ | ⟨v, r, hv, hr, hfetch⟩ := fetchWriter_cases s <;> rw [hfetch]
  · simp [fetchWriter, hv, Fetched.map]
  · simp [fetchWriter, hv, hi, Fetched.map]
  · simp only [fetchWriter, State.withWriter_ports, hv, hr]
    rfl

/-- What a turn comes to does not depend on the Writer's registers. -/
theorem fetch_withWriter (u : Turn) (s : State) (w : Writer) :
    fetch u (s.withWriter w) = (fetch u s).map (·.withWriter w) := by
  cases u with
  | reader => exact fetchReader_withWriter s w
  | writer => exact fetchWriter_withWriter s w
  | readerHost v => exact congrArg Fetched.move (s.offerReader_withWriter w v)
  | writerHost v => exact congrArg Fetched.move (s.offerWriter_withWriter w v)
  | environment => rfl

/-- A SAMPLE of any Writer empties the port and changes no other part than the Writer. -/
theorem ExecEffect.sample_withWriter (s : State) (w : Writer) :
    ∃ w', ExecEffect (s.withWriter w) .sample ((s.withPorts { s.ports with wCmd := none }).withWriter w') := by
  by_cases hstill : (s.withWriter w).lineSel = w.wPrevSel
  · exact ⟨w, .sampleStill hstill⟩
  · exact ⟨_, .sampleEdge hstill⟩

/-- Apart, an instruction has the same effect beside another Writer, up to the Writer's registers. -/
theorem ExecEffect.withWriter {i : Instr} {s t : State} (h : ExecEffect s i t)
    (hapart : s.cfg.wiring = .standAlone) (w : Writer) :
    ∃ w', ExecEffect (s.withWriter w) i (t.withWriter w') := by
  have hsettled : (s.withWriter w).settled = true := State.settled_standAlone hapart
  have hdin : (s.withWriter w).lineDin = s.lineDin := State.lineDin_withWriter hapart w
  cases h with
  | pollHeld hbusy => exact ⟨w, .pollHeld hbusy⟩
  | pollCached hidle hlimited => exact ⟨w, .pollCached hidle hlimited⟩
  | pollStart hidle hfree => exact ⟨w, .pollStart hidle hfree⟩
  | setstate d => exact ⟨_, .setstate d⟩
  | sampleStill | sampleEdge => exact ExecEffect.sample_withWriter s w
  | idle => exact ⟨w, .idle⟩
  | select hx => exact ⟨w, .select hx⟩
  | smpHeld _ hheld => exact absurd (State.settled_standAlone hapart) (Bool.eq_false_iff.mp hheld)
  | smp0 => exact ⟨w, .smp0 hsettled⟩
  | smp1 => exact ⟨w, .smp1 hsettled⟩
  | smp2 => exact ⟨w, hdin ▸ .smp2 hsettled⟩
  | smp3 => exact ⟨w, hdin ▸ .smp3 hsettled⟩
  | smp4 => exact ⟨w, hdin ▸ .smp4 hsettled⟩
  | smp5 => exact ⟨w, hdin ▸ .smp5 hsettled⟩
  | done => exact ⟨w, .done⟩
  | drive hi hc => exact ⟨_, .drive hi hc⟩

/-- Apart, a step beside another Writer leaves the same state, up to the Writer's registers. -/
theorem step_withWriter {s t : State} (hapart : s.cfg.wiring = .standAlone) (h : step s = .next t) (w : Writer) :
    ∃ w', step (s.withWriter w) = .next (t.withWriter w') := by
  have hfetch : fetch (s.withWriter w).nextTurn (s.withWriter w).passTurn =
      (fetch s.nextTurn s.passTurn).map (·.withWriter w) := by
    rw [s.passTurn_withWriter, fetch_withWriter]
    rfl
  obtain ⟨hpins, ⟨i, hrun, hexec⟩ | hmove⟩ := step_next_cases h
  · rw [hrun] at hfetch
    rw [← s.passTurn_cfg] at hapart
    obtain ⟨w', heffect⟩ := (exec_next_effect hexec).withWriter hapart w
    refine ⟨w', ?_⟩
    rw [step_of_run (s := s.withWriter w) hpins hfetch, s.passTurn_withWriter]
    exact heffect.exec_eq
  · rw [hmove] at hfetch
    exact ⟨w, step_of_move hpins hfetch⟩

/-! Replacing the Reader, at a Writer's turn. -/

theorem State.passTurn_withReader (s : State) (r : Reader) : (s.withReader r).passTurn = s.passTurn.withReader r := by
  cases hagenda : s.agenda <;> simp only [State.passTurn, State.withReader_agenda, hagenda] <;> rfl

theorem State.lineSel_withReader {s : State} (hapart : s.cfg.wiring = .standAlone) (r : Reader) :
    (s.withReader r).lineSel = s.lineSel :=
  ((s.withReader r).lineSel_standAlone hapart).trans (s.lineSel_standAlone hapart).symm

theorem fetchWriter_withReader (s : State) (r : Reader) :
    fetchWriter (s.withReader r) = (fetchWriter s).map (·.withReader r) := by
  obtain ⟨hv, hfetch⟩ | ⟨v, i, hv, hi, hfetch⟩ | ⟨v, e, hv, he, hfetch⟩ := fetchWriter_cases s <;> rw [hfetch]
  · simp [fetchWriter, hv, Fetched.map]
  · simp [fetchWriter, hv, hi, Fetched.map]
  · simp only [fetchWriter, State.withReader_ports, hv, he]
    rfl

/-- Apart, a Writer command has the same effect beside another Reader. -/
theorem ExecEffect.withReader {i : Instr} {s t : State} (h : ExecEffect s i t)
    (hi : i = .sample ∨ ∃ d, i = .setstate d) (hapart : s.cfg.wiring = .standAlone) (r : Reader) :
    ExecEffect (s.withReader r) i (t.withReader r) := by
  have hsel : (s.withReader r).lineSel = s.lineSel := State.lineSel_withReader hapart r
  cases h with
  | setstate d => exact .setstate d
  | sampleStill hstill => exact .sampleStill (hsel.trans hstill)
  | sampleEdge hedge => exact hsel ▸ .sampleEdge (hsel.trans_ne hedge)
  | select hx => fin_cases hx <;> simp at hi
  | smpHeld hmem | drive hmem => fin_cases hmem <;> simp at hi
  | pollHeld | pollCached | pollStart | idle | smp0 | smp1 | smp2 | smp3 | smp4 | smp5 | done => simp at hi

/-- Apart, a Writer's turn beside another Reader leaves the same state with that Reader in it. -/
theorem step_withReader {s t : State} (hapart : s.cfg.wiring = .standAlone) (hturn : s.nextTurn = .writer)
    (h : step s = .next t) (r : Reader) : step (s.withReader r) = .next (t.withReader r) := by
  have hfetch : fetch (s.withReader r).nextTurn (s.withReader r).passTurn =
      (fetch s.nextTurn s.passTurn).map (·.withReader r) := by
    rw [show (s.withReader r).nextTurn = .writer from hturn, hturn, s.passTurn_withReader]
    exact fetchWriter_withReader _ r
  obtain ⟨hpins, ⟨i, hrun, hexec⟩ | hmove⟩ := step_next_cases h
  · rw [hrun] at hfetch
    rw [← s.passTurn_cfg] at hapart
    obtain ⟨hreader, -⟩ | ⟨-, hi⟩ := fetch_run_cases hrun
    · exact absurd (hturn.symm.trans hreader) (by decide)
    · rw [step_of_run (s := s.withReader r) hpins hfetch, s.passTurn_withReader]
      exact ((exec_next_effect hexec).withReader hi hapart r).exec_eq
  · rw [hmove] at hfetch
    exact step_of_move hpins hfetch

/-- Settles O40: `step_withWriter` and `step_withReader` give the replaced runs, which differ in the replaced component
only. -/
theorem standAloneComponentsAreIndependent : Obligations.StandAloneComponentsAreIndependent := by
  intro s t w r hapart hstep
  refine ⟨?_, fun hturn => ⟨_, step_withReader hapart hturn hstep r, rfl, rfl⟩⟩
  obtain ⟨w', hreplaced⟩ := step_withWriter hapart hstep w
  exact ⟨_, hreplaced, rfl, rfl⟩

end Sys2Proof.Machine
end

section
/-! The codec (30_encoding.md R76 to R81): the decoder answers an instruction exactly on that instruction's code, and a
component the instructions that are its own. -/

namespace Sys2Proof.Machine

/-! The three fields of a command word are the whole word (30_encoding.md R76). -/

@[simp] theorem cmdFields_cmdWordOf (f : CmdFields) : cmdFields (cmdWordOf f) = f := by
  have hop : (f.op ++ f.rsv ++ f.data).extractLsb' 28 4 = f.op := by
    rw [BitVec.extractLsb'_append_eq_of_le (by decide)]
    exact BitVec.extractLsb'_append_eq_left
  have hrsv : (f.op ++ f.rsv ++ f.data).extractLsb' 16 12 = f.rsv := by
    rw [BitVec.extractLsb'_append_eq_of_le (by decide)]
    exact BitVec.extractLsb'_append_eq_right
  have hdata : (f.op ++ f.rsv ++ f.data).extractLsb' 0 16 = f.data := BitVec.extractLsb'_append_eq_right
  rw [cmdFields, cmdWordOf, hop, hrsv, hdata]

@[simp] theorem cmdWordOf_cmdFields (w : CmdWord) : cmdWordOf (cmdFields w) = w := by
  have hhigh : w.extractLsb' 28 4 ++ w.extractLsb' 16 12 = w.extractLsb' 16 16 :=
    BitVec.extractLsb'_append_extractLsb'_eq_extractLsb' rfl
  rw [cmdWordOf, cmdFields, hhigh]
  exact BitVec.extractLsb'_append_extractLsb'

/-! Each format alone. -/

theorem decodeNoData_eq_instr_iff (f : CmdFields) (i j : Instr) :
    decodeNoData f i = .instr j ↔ f.data = 0 ∧ i = j := by
  rw [decodeNoData]
  split
  case isTrue hdata => simp only [hdata, true_and, Decoded.instr.injEq]
  case isFalse hdata => simp only [hdata, false_and, reduceCtorEq]

theorem encode_of_decodeFields {f : CmdFields} {i : Instr} (h : decodeFields f = .instr i) :
    encode i = .cmd (cmdWordOf f) := by
  obtain ⟨op, rsv, data⟩ := f
  unfold decodeFields at h
  split_ifs at h with hreserved hrsv hpoll hsetstate
  all_goals obtain rfl : rsv = 0 := not_not.mp hrsv
  case pos =>
    obtain rfl : op = 1 := hpoll
    obtain ⟨rfl, rfl⟩ := (decodeNoData_eq_instr_iff _ _ _).mp h
    rfl
  case pos =>
    obtain rfl : op = 2 := hsetstate
    cases h
    rfl
  case neg =>
    obtain rfl : op = 3 := by tauto
    obtain ⟨rfl, rfl⟩ := (decodeNoData_eq_instr_iff _ _ _).mp h
    rfl

theorem decodeCmd_eq_instr_iff (w : CmdWord) (i : Instr) : decodeCmd w = .instr i ↔ encode i = .cmd w := by
  constructor
  · intro h
    rw [← cmdWordOf_cmdFields w]
    exact encode_of_decodeFields h
  · intro h
    cases i
    case poll | setstate | sample => cases h; simp [decodeCmd, decodeFields, decodeNoData]
    all_goals simp [encode] at h

theorem decodePhase_eq_iff (p : PhaseCode) (i : Instr) : decodePhase p = i ↔ encode i = .phase p := by
  constructor
  · rintro rfl
    exact encode_decodePhase p
  · intro h
    cases i <;> cases h <;> rfl

theorem encode_decodeCycle (c : CycleCode) : encode (decodeCycle c) = .cycle c := by
  revert c
  decide

theorem decodeCycle_eq_iff (c : CycleCode) (i : Instr) : decodeCycle c = i ↔ encode i = .cycle c := by
  constructor
  · rintro rfl
    exact encode_decodeCycle c
  · intro h
    cases i <;> cases h <;> rfl

/-! The three formats together. -/

/-- Decoding and encoding are inverse to each other on the codes the decoder does not refuse. -/
theorem decode_eq_instr_iff (c : Code) (i : Instr) : decode c = .instr i ↔ encode i = c := by
  cases c with
  | cmd w => exact decodeCmd_eq_instr_iff w i
  | phase p => rw [decode, Decoded.instr.injEq, decodePhase_eq_iff]
  | cycle c => rw [decode, Decoded.instr.injEq, decodeCycle_eq_iff]

/-- Settles O1: every code the encoder gives is one the decoder answers. -/
theorem decodeOfEncode : Obligations.DecodeOfEncode :=
  fun i => (decode_eq_instr_iff (encode i) i).mpr rfl

/-- Settles O2, the other direction of the same equivalence. -/
theorem encodeOfDecode : Obligations.EncodeOfDecode :=
  fun c i => (decode_eq_instr_iff c i).mp

/-- Settles O4: the eleven codes are closed terms. -/
theorem writtenCodesDecode : Obligations.WrittenCodesDecode := by
  unfold Obligations.WrittenCodesDecode
  decide

/-! What a component accepts (30_encoding.md R77, R79). -/

theorem decodeFor_eq_instr_iff (c : Component) (w : CmdWord) (i : Instr) :
    decodeFor c w = .instr i ↔ acceptedBy i c = true ∧ encode i = .cmd w := by
  rw [← decodeCmd_eq_instr_iff]
  cases hw : decodeCmd w with
  | reject r => simp [decodeFor, hw]
  | instr j =>
    by_cases haccepts : acceptedBy j c = true
    · simp only [decodeFor, hw, haccepts, if_true, Decoded.instr.injEq]
      exact ⟨fun h => ⟨h ▸ haccepts, h⟩, And.right⟩
    · simp only [decodeFor, hw, haccepts, Decoded.instr.injEq]
      exact ⟨nofun, fun h => absurd (h.2 ▸ h.1) haccepts⟩

/-- A row with a full mask has one word, its match. -/
theorem cmd_eq_cmd_iff_fullMask (v w : CmdWord) : Code.cmd v = .cmd w ↔ w &&& 0xFFFFFFFF = v := by
  rw [show (0xFFFFFFFF : CmdWord) = BitVec.allOnes 32 from rfl, BitVec.and_allOnes, Code.cmd.injEq, eq_comm]

theorem encode_poll_eq_cmd_iff (w : CmdWord) : encode .poll = .cmd w ↔ w &&& 0xFFFFFFFF = 0x10000000 :=
  cmd_eq_cmd_iff_fullMask 0x10000000 w

theorem encode_sample_eq_cmd_iff (w : CmdWord) : encode .sample = .cmd w ↔ w &&& 0xFFFFFFFF = 0x30000000 :=
  cmd_eq_cmd_iff_fullMask 0x30000000 w

/-- The mask keeps the high half of the word, and the low half is the operand. -/
theorem encode_setstate_eq_cmd_iff (w : CmdWord) (d : PadWord) :
    encode (.setstate d) = .cmd w ↔ w &&& 0xFFFF0000 = 0x20000000 ∧ d = w.setWidth 16 := by
  constructor
  · intro h
    obtain ⟨v, hv, hmatch⟩ := Laws.RowMatch.setstate d
    cases h
    cases hv
    exact ⟨hmatch, BitVec.setWidth_append_eq_right.symm⟩
  · rintro ⟨hmatch, rfl⟩
    obtain ⟨hi, lo, rfl⟩ : ∃ hi lo : BitVec 16, w = hi ++ lo :=
      ⟨_, _, (BitVec.extractLsb'_append_extractLsb' (w := 16) (len := 16)).symm⟩
    have hmask : (hi ++ lo) &&& (0xFFFF0000 : CmdWord) = hi ++ 0#16 := by
      rw [show (0xFFFF0000 : CmdWord) = BitVec.allOnes 16 ++ 0#16 from rfl, BitVec.and_append,
        BitVec.and_allOnes, BitVec.and_zero]
    have hhi : hi = 0x2#4 ++ 0#12 :=
      (BitVec.append_left_inj 0#16).mp (hmask.symm.trans hmatch)
    rw [BitVec.setWidth_append_eq_right, hhi]
    rfl

/-- Settles O3: a component accepts the codes of its own commands, and those are the words of its table rows. -/
theorem commandWordsAccepted : Obligations.CommandWordsAccepted := by
  intro w i
  rw [decodeFor_eq_instr_iff, decodeFor_eq_instr_iff, acceptedBy_reader_iff, acceptedBy_writer_iff]
  constructor
  · rw [and_comm, and_congr_left]
    rintro rfl
    exact encode_poll_eq_cmd_iff w
  · constructor
    · rintro ⟨rfl | ⟨d, rfl⟩, hcode⟩
      · exact .inr ⟨(encode_sample_eq_cmd_iff w).mp hcode, rfl⟩
      · obtain ⟨hmatch, rfl⟩ := (encode_setstate_eq_cmd_iff w d).mp hcode
        exact .inl ⟨hmatch, rfl⟩
    · rintro (⟨hmatch, rfl⟩ | ⟨hmatch, rfl⟩)
      · exact ⟨.inr ⟨_, rfl⟩, (encode_setstate_eq_cmd_iff w _).mpr ⟨hmatch, rfl⟩⟩
      · exact ⟨.inl rfl, (encode_sample_eq_cmd_iff w).mpr hmatch⟩

end Sys2Proof.Machine
end

section
/-! The phase a Reader's turn runs (30_encoding.md R80, 40_reader.md R100), and the target bits a drive step reads
(30_encoding.md R71). -/

namespace Sys2Proof.Machine

theorem fetchReader_of_busy_or_noCmd {s : State} (h : s.reader.rPhase ≠ 0 ∨ s.ports.rCmd = none) :
    fetchReader s = .run (decodePhase s.reader.rPhase) := by
  obtain ⟨hready, w, i, hcmd, -⟩ | ⟨hready, w, r, hcmd, -⟩ | ⟨-, hrun⟩ := fetchReader_cases s
  case inr.inr => exact hrun
  all_goals simp [s.cmdReady_iff.mp hready, hcmd] at h

/-- Settles O5: the turn taken off the agenda changes neither the phase nor the port. -/
theorem stepRunsPhase : Obligations.StepRunsPhase := by
  intro s us hpins hagenda hphase
  rw [← s.passTurn_of_agenda .reader us hagenda]
  apply step_of_run hpins
  rw [s.nextTurn_of_agenda .reader us hagenda, s.passTurn_of_agenda .reader us hagenda]
  exact fetchReader_of_busy_or_noCmd (s := { s with agenda := us }) hphase

theorem getLsbD_eq_of_and_eq {T U : PadWord} (h : T &&& 0x1FFF = U &&& 0x1FFF) {i : Nat} (hi : i < 13) :
    T.getLsbD i = U.getLsbD i := by
  have hbit : (0x1FFF : PadWord).getLsbD i = true := by interval_cases i <;> rfl
  have hmasked : (T &&& 0x1FFF).getLsbD i = (U &&& 0x1FFF).getLsbD i := by rw [h]
  simpa only [BitVec.getLsbD_and, hbit, Bool.and_true] using hmasked

/-- A pattern reads bits 0 to 12 of the target only (30_encoding.md R71, R75). -/
theorem patternOf_congr {T U : PadWord} (h : T &&& 0x1FFF = U &&& 0x1FFF) (c : CycleCode) (six : Bool) :
    patternOf c T six = patternOf c U six := by
  have hread (i : Nat) (hi : i < 13) : T.getLsbD i = U.getLsbD i := getLsbD_eq_of_and_eq h hi
  have hconnect : patConnect T = patConnect U := by
    simp only [patConnect, drivenLow, hread 0, hread 7, hread 8, Nat.reduceLT]
  have hbuttons : patButtons T = patButtons U := by
    simp only [patButtons, drivenLow, hread 0, hread 1, hread 2, hread 3, hread 4, hread 5, hread 6, Nat.reduceLT]
  have hsixid : patSixid T six = patSixid U six := by simp only [patSixid, hread 0, Nat.reduceLT]
  have hext : patExt T six = patExt U six := by
    simp only [patExt, drivenLow, hread 0, hread 9, hread 10, hread 11, hread 12, Nat.reduceLT]
  simp only [patternOf, hconnect, hbuttons, hsixid, hext]

/-- Settles O33: the lines driven are the pattern of the cycle, the same for both targets. -/
theorem reservedTargetBitsNeverDriven : Obligations.ReservedTargetBitsNeverDriven := by
  intro s c T hagree
  refine ⟨patternOf c s.writer.wTarget s.cfg.wSix, exec_decodeCycle c s, ?_⟩
  rw [exec_decodeCycle, patternOf_congr hagree]
  rfl

end Sys2Proof.Machine
end

section
/-! The Reader's commands and micro-steps one by one (40_reader.md R100 to R110): what each writes, bit by bit. -/

namespace Sys2Proof.Machine

/-! Commands and selects. -/

/-- The step of a turn at the head of the agenda that runs an instruction. -/
theorem step_of_agenda_run {s : State} {i : Instr} {u : Turn} {us : List Turn} (hpins : s.pinsOk = true)
    (hagenda : s.agenda = u :: us) (hfetch : fetch u { s with agenda := us } = .run i) :
    step s = exec i { s with agenda := us } := by
  rw [← s.passTurn_of_agenda u us hagenda] at hfetch ⊢
  apply step_of_run hpins
  rwa [s.nextTurn_of_agenda u us hagenda]

theorem fetchReader_of_cmd {s : State} {w : CmdWord} {i : Instr} (hidle : s.reader.rPhase = 0)
    (hcmd : s.ports.rCmd = some w) (hdecode : decodeFor .reader w = .instr i) : fetchReader s = .run i := by
  simp [fetchReader, s.cmdReady_iff.mpr hidle, hcmd, hdecode]

theorem fetchWriter_of_cmd {s : State} {w : CmdWord} {i : Instr} (hcmd : s.ports.wCmd = some w)
    (hdecode : decodeFor .writer w = .instr i) : fetchWriter s = .run i := by
  simp [fetchWriter, hcmd, hdecode]

/-- Settles O6: the turn taken off the agenda changes neither the phase nor a port, so the turn fetches the command. -/
theorem stepRunsCommand : Obligations.StepRunsCommand := by
  intro s us w i hpins
  constructor
  · intro hagenda hidle hcmd hdecode
    exact step_of_agenda_run hpins hagenda (fetchReader_of_cmd hidle hcmd hdecode)
  · intro hagenda hcmd hdecode
    exact step_of_agenda_run hpins hagenda (fetchWriter_of_cmd hcmd hdecode)

/-- The rate limit with the elapsed time as 40_reader.md R101 writes it. -/
theorem State.rateLimited_iff_elapsed (s : State) :
    s.rateLimited = true ↔ s.reader.rValid = true ∧
      (s.env.now.toNat + 2 ^ 32 - s.reader.rLast.toNat) % 2 ^ 32 < s.cfg.readDelayMs.toNat := by
  rw [s.rateLimited_iff, ← elapsed_toNat, elapsed]

/-- Settles O12: the three effects of POLL, told apart by the phase and the rate limit. -/
theorem pollDispatch : Obligations.PollDispatch := by
  intro s
  by_cases hidle : s.reader.rPhase = 0
  case neg =>
    exact ⟨s, ExecEffect.exec_eq (.pollHeld hidle), rfl, rfl, rfl, s.cmdReady_iff, fun _ => rfl,
      fun h => absurd h hidle, fun h => absurd h hidle⟩
  case pos =>
    cases hlimited : s.rateLimited with
    | true =>
      obtain ⟨hvalid, hinside⟩ := s.rateLimited_iff_elapsed.mp hlimited
      refine ⟨_, ExecEffect.exec_eq (.pollCached hidle hlimited), rfl, rfl, rfl, s.cmdReady_iff,
        fun hbusy => absurd hidle hbusy, fun _ _ _ => ⟨rfl, rfl⟩, fun _ hfree => ?_⟩
      obtain hinvalid | houtside := hfree
      · simp [hvalid] at hinvalid
      · omega
    | false =>
      refine ⟨_, ExecEffect.exec_eq (.pollStart hidle hlimited), rfl, rfl, rfl, s.cmdReady_iff,
        fun hbusy => absurd hidle hbusy, fun _ hvalid hinside => ?_, fun _ _ => ⟨rfl, rfl⟩⟩
      exact absurd (s.rateLimited_iff_elapsed.mpr ⟨hvalid, hinside⟩) (Bool.eq_false_iff.mp hlimited)

/-- Settles O15: the six pairs of instruction and cycle, one by one. -/
theorem selectStep : Obligations.SelectStep := by
  intro s p hp
  fin_cases hp <;> exact ⟨rfl, rfl⟩

/-- A select phase drives the level of its own bit 1 (30_encoding.md R80, 40_reader.md R103). -/
theorem decodePhase_select :
    ∀ p ∈ ([0x1, 0x3, 0x5, 0x7, 0x9, 0xB] : List PhaseCode),
      p ≠ 0 ∧ ∃ x ∈ selectTable, decodePhase p = x.1 ∧ x.2.1 = p.getLsbD 1 := by
  decide

/-- Settles O16: the level before a select phase is the complement of the phase's bit 1, and the level it drives is that
bit. -/
theorem everySelectStepIsAnEdge : Obligations.EverySelectStepIsAnEdge := by
  intro s t hsel hphase hturn hstep
  obtain ⟨hbusy, x, hx, hdecode, hlevel⟩ := decodePhase_select _ hphase
  obtain ⟨hpins, -⟩ := step_next_cases hstep
  have hfetch : fetch s.nextTurn s.passTurn = .run x.1 := by
    rw [hturn, ← hdecode, ← s.passTurn_reader]
    exact fetchReader_of_busy_or_noCmd (.inl (s.passTurn_reader ▸ hbusy))
  rw [step_of_run hpins hfetch, ExecEffect.exec_eq (.select hx)] at hstep
  cases hstep
  rw [hsel, Bool.not_not]
  exact hlevel

/-! Sample steps: the bits of the word and the flag. -/

theorem maskIf_twoPow_getLsbD (b : Bool) {k : Nat} (hk : k < 16) (i : Nat) :
    (maskIf b (BitVec.twoPow 16 k)).getLsbD i = (b && decide (k = i)) := by
  cases b <;> simp [maskIf, BitVec.getLsbD_twoPow, hk]

theorem maskConn_eq_twoPow : maskConn = BitVec.twoPow 16 0 := rfl
theorem maskA_eq_twoPow : maskA = BitVec.twoPow 16 7 := rfl
theorem maskStart_eq_twoPow : maskStart = BitVec.twoPow 16 8 := rfl
theorem maskX_eq_twoPow : maskX = BitVec.twoPow 16 9 := rfl
theorem maskY_eq_twoPow : maskY = BitVec.twoPow 16 10 := rfl
theorem maskZ_eq_twoPow : maskZ = BitVec.twoPow 16 11 := rfl
theorem maskMode_eq_twoPow : maskMode = BitVec.twoPow 16 12 := rfl

/-- The bits of cycle 2's word; A and Start are gated by the new CONN (40_reader.md R106). -/
theorem sampleConnect_getLsbD (st : PadWord) (d : Lines) (i : Nat) :
    (sampleConnect st d).getLsbD i =
      (st.getLsbD i || (connSeen d && decide (0 = i)) ||
        ((st.getLsbD 0 || connSeen d) && (asserted d 4 && decide (7 = i) || asserted d 5 && decide (8 = i)))) := by
  have hconn : (st ||| maskIf (connSeen d) maskConn).getLsbD 0 = (st.getLsbD 0 || connSeen d) := by
    rw [BitVec.getLsbD_or, maskConn_eq_twoPow, maskIf_twoPow_getLsbD _ (by decide), decide_eq_true rfl, Bool.and_true]
  rw [sampleConnect, hconn]
  cases st.getLsbD 0 || connSeen d <;>
    simp [maskConn_eq_twoPow, maskA_eq_twoPow, maskStart_eq_twoPow, maskIf_twoPow_getLsbD, Bool.or_assoc]

/-- The bits of cycle 3's word: line `Di` on bit `i + 1` (40_reader.md R107). -/
theorem sampleButtons_getLsbD (st : PadWord) (d : Lines) (i : Nat) :
    (sampleButtons st d).getLsbD i = (st.getLsbD i || (decide (1 ≤ i ∧ i ≤ 6) && !d.getLsbD (i - 1))) := by
  rw [sampleButtons, BitVec.getLsbD_or, BitVec.getLsbD_shiftLeft, BitVec.getLsbD_setWidth, BitVec.getLsbD_not]
  congr 1
  by_cases hline : 1 ≤ i ∧ i ≤ 6
  · have hrange : i < 16 ∧ ¬ i < 1 ∧ i - 1 < 16 ∧ i - 1 < 6 := by omega
    simp [hline, hrange]
  · have hrange : i < 1 ∨ ¬ i - 1 < 6 := by omega
    obtain h | h := hrange <;> simp [hline, h]

/-- The bits of cycle 5's word (40_reader.md R109). -/
theorem sampleExt_getLsbD (st : PadWord) (six : Bool) (d : Lines) (i : Nat) :
    (sampleExt st six d).getLsbD i =
      (st.getLsbD i || (six && (asserted d 0 && decide (11 = i) || asserted d 1 && decide (10 = i) ||
        asserted d 2 && decide (9 = i) || asserted d 3 && decide (12 = i)))) := by
  cases six
  · simp [sampleExt]
  · simp [sampleExt, maskZ_eq_twoPow, maskY_eq_twoPow, maskX_eq_twoPow, maskMode_eq_twoPow, maskIf_twoPow_getLsbD,
      Bool.or_assoc]

theorem latchSix_of_sixSeen {d : Lines} (h : sixSeen d = true) (latch : SixLatch) (six : Bool) :
    latchSix latch six d = true := by
  cases latch <;> simp [latchSix, h]

theorem latchSix_of_not_sixSeen {d : Lines} (h : sixSeen d = false) (six : Bool) :
    latchSix .sticky six d = six ∧ latchSix .assign six d = false := by
  simp [latchSix, h]

/-- Settles O17: with the settle premise both steps fire, and they write the phase only. -/
theorem settlingSteps : Obligations.SettlingSteps := by
  intro s hsettled
  rw [← s.settled_iff] at hsettled
  exact ⟨ExecEffect.exec_eq (.smp0 hsettled), ExecEffect.exec_eq (.smp1 hsettled)⟩

/-- Settles O18: the new word is `sampleConnect`, read off bit by bit. -/
theorem connectionCheckStep : Obligations.ConnectionCheckStep := by
  intro s hsettled
  rw [← s.settled_iff] at hsettled
  refine ⟨_, ExecEffect.exec_eq (.smp2 hsettled), ?conn, ?a, ?start, fun i h0 h7 h8 => ?other⟩
  all_goals simp only [sampleConnect_getLsbD]
  case conn => simp [connSeen, asserted]
  case a | start => simp [asserted]
  case other => simp [h0.symm, h7.symm, h8.symm]

/-- Settles O19: the new word is `sampleButtons`, read off bit by bit. -/
theorem buttonsStep : Obligations.ButtonsStep := by
  intro s hsettled
  rw [← s.settled_iff] at hsettled
  refine ⟨_, ExecEffect.exec_eq (.smp3 hsettled), fun i hi => ?_, fun i hi => ?_⟩
  · have hline : 1 ≤ i + 1 ∧ i + 1 ≤ 6 := by omega
    simp [sampleButtons_getLsbD, hline]
  · have hnone : ¬(1 ≤ i ∧ i ≤ 6) := by omega
    simp [sampleButtons_getLsbD, hnone]

/-- Settles O20: the new flag is `latchSix`, by whether both lines are low. -/
theorem sixButtonStep : Obligations.SixButtonStep := by
  intro s hsettled
  rw [← s.settled_iff] at hsettled
  refine ⟨_, ExecEffect.exec_eq (.smp4 hsettled), fun ⟨h0, h1⟩ => ?_, fun hhigh => ?_⟩
  · have hseen : sixSeen s.lineDin = true := by simp only [sixSeen, asserted, h0, h1, Bool.not_false, Bool.and_true]
    exact latchSix_of_sixSeen hseen _ _
  · have hseen : sixSeen s.lineDin = false := by
      obtain h | h := hhigh <;> simp only [sixSeen, asserted, h, Bool.not_true, Bool.false_and, Bool.and_false]
    obtain ⟨hsticky, hassign⟩ := latchSix_of_not_sixSeen hseen s.reader.rSix
    exact ⟨fun h => h ▸ hsticky, fun h => h ▸ hassign⟩

/-- Settles O21: the new word is `sampleExt`, read off bit by bit. -/
theorem extendedButtonsStep : Obligations.ExtendedButtonsStep := by
  intro s hsettled
  rw [← s.settled_iff] at hsettled
  refine ⟨_, ExecEffect.exec_eq (.smp5 hsettled), ?z, ?y, ?x, ?mode, fun i hi => ?other⟩
  all_goals simp only [sampleExt_getLsbD]
  case other =>
    have hother : 11 ≠ i ∧ 10 ≠ i ∧ 9 ≠ i ∧ 12 ≠ i := by omega
    simp [hother]
  case z | y | x | mode => simp [asserted]

/-- Settles O23: the disconnect rule as a conjunction. -/
theorem doneStep : Obligations.DoneStep := by
  intro s
  have hsix : (if connected s.reader.rState then s.reader.rSix else false) =
      (s.reader.rSix && s.reader.rState.getLsbD 0) := by
    rw [Bool.and_comm, connected]
    cases s.reader.rState.getLsbD 0 <;> rfl
  rw [← hsix]
  rfl

end Sys2Proof.Machine
end

section
/-! What a full read shows outside: the responses and the order of the phases (40_reader.md R111, R113). -/

namespace Sys2Proof.Machine

/-- A POLL runs at a turn of an idle Reader with the POLL word on its port. -/
theorem poll_of_fetch_run {u : Turn} {s : State} (h : fetch u s = .run .poll) :
    u = .reader ∧ s.reader.rPhase = 0 ∧ s.ports.rCmd = some 0x10000000 := by
  obtain ⟨rfl, -⟩ | ⟨-, hi⟩ := fetch_run_cases h
  case inr => simp at hi
  obtain ⟨hready, w, i, hcmd, hdecode, hrun⟩ | ⟨-, w, r, -, -, hmove⟩ | ⟨-, hrun⟩ := fetchReader_cases s
  · cases hrun.symm.trans h
    obtain ⟨-, hcode⟩ := (decodeFor_eq_instr_iff _ _ _).mp hdecode
    cases hcode
    exact ⟨rfl, s.cmdReady_iff.mp hready, hcmd⟩
  · cases hmove.symm.trans h
  · have hcode := (decodePhase_eq_iff _ _).mp (Fetched.run.inj (hrun.symm.trans h))
    cases hcode

/-- A move that runs no instruction returns no response, and takes a word off the Reader's port only in `IDLE`. -/
theorem ports_of_fetch_move {u : Turn} {s t : State} (h : fetch u s = .move t) :
    t.ports.resp = s.ports.resp ∧
      (s.reader.rPhase ≠ 0 → ∀ w, s.ports.rCmd = some w → t.ports.rCmd = some w) := by
  cases u with
  | reader =>
    obtain ⟨-, w, i, -, -, hfetch⟩ | ⟨hready, w, r, -, -, hfetch⟩ | ⟨-, hfetch⟩ := fetchReader_cases s <;>
      cases hfetch.symm.trans h
    exact ⟨rfl, fun hbusy => absurd (s.cmdReady_iff.mp hready) hbusy⟩
  | writer =>
    obtain ⟨-, hfetch⟩ | ⟨w, i, -, -, hfetch⟩ | ⟨w, r, -, -, hfetch⟩ := fetchWriter_cases s <;>
      cases hfetch.symm.trans h <;> exact ⟨rfl, fun _ _ => id⟩
  | readerHost v =>
    cases h
    rw [s.offerReader_eq_withPorts]
    exact ⟨rfl, fun _ w hw => by simp [hw]⟩
  | writerHost v =>
    cases h
    rw [s.offerWriter_eq_withPorts]
    exact ⟨rfl, fun _ _ => id⟩
  | environment =>
    cases h
    exact ⟨rfl, fun _ _ => id⟩

/-- An instruction that responds sends `r_state`, and is a POLL inside the read-delay or `DONE` (40_reader.md R113). -/
theorem resp_of_exec {i : Instr} {s t : State} (h : exec i s = .next t) :
    t.ports.resp = s.ports.resp ∨
      (t.ports.resp = s.ports.resp ++ [s.reader.rState] ∧ (i = .poll ∧ s.rateLimited = true ∨ i = .done)) := by
  cases exec_next_effect h with
  | pollCached _ hlimited => exact .inr ⟨rfl, .inl ⟨rfl, hlimited⟩⟩
  | done => exact .inr ⟨rfl, .inr rfl⟩
  | pollHeld | pollStart | setstate | sampleStill | sampleEdge | idle | select | smpHeld | smp0 | smp1 | smp2 | smp3 |
    smp4 | smp5 | drive => exact .inl rfl

theorem State.passTurn_rateLimited (s : State) : s.passTurn.rateLimited = s.rateLimited := by
  simp [State.rateLimited]

/-- Settles O42: a move sends no response, and an instruction that does runs in its place. -/
theorem responsesOnlyFromPollAndDone : Obligations.ResponsesOnlyFromPollAndDone := by
  intro s t hstep
  obtain ⟨-, ⟨i, hrun, hexec⟩ | hmove⟩ := step_next_cases hstep
  case inr =>
    obtain ⟨hresp, -⟩ := ports_of_fetch_move hmove
    exact .inl (hresp.trans (congrArg HostPorts.resp s.passTurn_ports))
  have hresp := resp_of_exec hexec
  simp only [s.passTurn_ports, s.passTurn_reader, s.passTurn_rateLimited] at hresp
  refine hresp.imp_right fun ⟨hword, hi⟩ => ?_
  obtain ⟨rfl, hlimited⟩ | rfl := hi
  · obtain ⟨hturn, hidle, hcmd⟩ := poll_of_fetch_run hrun
    rw [s.passTurn_reader] at hidle
    rw [s.passTurn_ports] at hcmd
    exact ⟨hword, hturn, .inr ⟨hidle, hlimited, hcmd⟩⟩
  · have hphase := phase_of_fetch_run (p := 0xD) hrun rfl
    rw [s.passTurn_reader] at hphase
    obtain ⟨hturn, -⟩ | ⟨-, hi⟩ := fetch_run_cases hrun
    · exact ⟨hword, hturn, .inl hphase⟩
    · simp at hi

/-- A select step goes on to the code after its own. -/
theorem selectTable_succ :
    ∀ x ∈ selectTable, ∃ p, encode x.1 = .phase p ∧ 1 ≤ p.toNat ∧ p.toNat ≤ 12 ∧ x.2.2.toNat = p.toNat + 1 := by
  decide

/-- The moves of the phase, for an instruction that runs in its place (40_reader.md R111). -/
theorem rPhase_of_exec {i : Instr} {s t : State} (h : exec i s = .next t)
    (hphase : ∀ p, encode i = .phase p → s.reader.rPhase = p) :
    t.reader.rPhase = s.reader.rPhase ∨ (i = .poll ∧ s.reader.rPhase = 0 ∧ t.reader.rPhase = 1) ∨
      (1 ≤ s.reader.rPhase.toNat ∧ s.reader.rPhase.toNat ≤ 12 ∧
        t.reader.rPhase.toNat = s.reader.rPhase.toNat + 1) ∨
      (s.reader.rPhase = 0xD ∧ t.reader.rPhase = 0) := by
  cases exec_next_effect h with
  | pollHeld | pollCached | setstate | sampleStill | sampleEdge | idle | smpHeld | drive => exact .inl rfl
  | pollStart hidle => exact .inr (.inl ⟨rfl, hidle, rfl⟩)
  | select hx =>
    obtain ⟨p, hcode, hsucc⟩ := selectTable_succ _ hx
    obtain rfl := hphase p hcode
    exact .inr (.inr (.inl hsucc))
  | smp0 | smp1 | smp2 | smp3 | smp4 | smp5 =>
    rw [hphase _ rfl]
    exact .inr (.inr (.inl ⟨by decide, by decide, rfl⟩))
  | done => exact .inr (.inr (.inr ⟨hphase _ rfl, rfl⟩))

/-- Settles O43: an instruction in its place moves the phase as R111 says and takes a word off the Reader's port in
`IDLE` only; a move writes no register. -/
theorem fullReadOrder : Obligations.FullReadOrder := by
  intro s t hstep
  obtain ⟨-, ⟨i, hrun, hexec⟩ | hmove⟩ := step_next_cases hstep
  · have horder := rPhase_of_exec hexec fun p => phase_of_fetch_run hrun
    obtain ⟨hport, -⟩ := acceptedCommandLeavesPort i _ t hexec
    rw [s.passTurn_reader] at horder hport
    rw [s.passTurn_ports] at hport
    refine ⟨?_, fun hbusy w hw => ?_⟩
    · refine horder.imp_right fun h => h.imp_left ?_
      rintro ⟨hpoll, hidle, hstart⟩
      obtain ⟨-, -, hcmd⟩ := poll_of_fetch_run (hpoll ▸ hrun)
      exact ⟨hidle, hstart, s.passTurn_ports ▸ hcmd⟩
    · rw [hport, if_neg fun hpoll => hbusy hpoll.2, hw]
  · obtain ⟨hreader, -⟩ := registers_of_fetch_move hmove
    obtain ⟨-, hport⟩ := ports_of_fetch_move hmove
    rw [s.passTurn_reader] at hreader hport
    rw [s.passTurn_ports] at hport
    exact ⟨.inl (congrArg Reader.rPhase hreader), hport⟩

end Sys2Proof.Machine
end

section
/-! A stand-alone full read in micro-steps (40_reader.md R112): one lemma per cycle of three turns, then the word and the
flag of the one-step function. -/

namespace Sys2Proof.Machine

/-! The sampling functions, composed, are the one-step function. -/

theorem maskIf_not (b : Bool) (m : PadWord) : maskIf (!b) m = if b then 0 else m := by
  cases b <;> rfl

/-- Cycle 2 from a clear word, written as R112 writes it (40_reader.md R106, R112). -/
theorem sampleConnect_zero (d : Lines) :
    sampleConnect 0 d =
      ((if connSeen d then 0x0001 else 0 : Nat) : PadWord) |||
        ((if connSeen d && asserted d 4 then 0x0080 else 0 : Nat) : PadWord) |||
          ((if connSeen d && asserted d 5 then 0x0100 else 0 : Nat) : PadWord) := by
  unfold sampleConnect
  cases connSeen d <;> cases asserted d 4 <;> cases asserted d 5 <;> rfl

theorem latchSix_eq_fullReadLatched (latch : SixLatch) (six : Bool) (d : Lines) :
    latchSix latch six d = fullReadLatched latch six d := by
  cases latch with
  | assign => rfl
  | sticky =>
    change (if sixSeen d then true else six) = (six || sixSeen d)
    cases sixSeen d <;> simp

/-- The word after cycle 5 is the word of R112. -/
theorem sampled_eq_fullReadWord (latch : SixLatch) (six : Bool) (d2 d3 d4 d5 : Lines) :
    sampleExt (sampleButtons (sampleConnect 0 d2) d3) (latchSix latch six d4) d5 =
      fullReadWord latch six d2 d3 d4 d5 := by
  rw [sampleConnect_zero, latchSix_eq_fullReadLatched, sampleExt]
  simp only [asserted, maskIf_not]
  rfl

/-- The flag after `DONE` is the flag of R112: CONN of the word is CONN of cycle 2. -/
theorem connected_sampled_eq_fullReadSix (latch : SixLatch) (six : Bool) (d2 d3 d4 d5 : Lines) :
    (latchSix latch six d4 && (fullReadWord latch six d2 d3 d4 d5).getLsbD 0) = fullReadSix latch six d2 d4 := by
  have hconn : (fullReadWord latch six d2 d3 d4 d5).getLsbD 0 = connSeen d2 := by
    rw [← sampled_eq_fullReadWord, sampleExt_getLsbD, sampleButtons_getLsbD, sampleConnect_getLsbD]
    simp
  rw [hconn, latchSix_eq_fullReadLatched, Bool.and_comm]
  rfl

/-! The turns. -/

/-- The Reader's registers after the select step `x` of the table (40_reader.md R103). -/
def Reader.selected (x : Instr × Bool × PhaseCode) (r : Reader) : Reader :=
  { r with rSel := x.2.1, rPhase := x.2.2 }

/-- The Reader's registers after a sample step that fires on the lines `d` (40_reader.md R104 to R109). -/
def Reader.sampled (latch : SixLatch) (d : Lines) (r : Reader) : Instr → Reader
  | .smp0 => { r with rPhase := 0x3 }
  | .smp1 => { r with rPhase := 0x5 }
  | .smp2 => { r with rState := sampleConnect r.rState d, rPhase := 0x7 }
  | .smp3 => { r with rState := sampleButtons r.rState d, rPhase := 0x9 }
  | .smp4 => { r with rSix := latchSix latch r.rSix d, rPhase := 0xB }
  | .smp5 => { r with rState := sampleExt r.rState r.rSix d, rPhase := 0xD }
  | _ => r

/-- The Reader's registers after one cycle: the select step `x`, then its sample step on the lines `d`. -/
def Reader.cycled (latch : SixLatch) (x : Instr × Bool × PhaseCode) (d : Lines) (r : Reader) : Reader :=
  (r.selected x).sampled latch d (decodePhase x.2.2)

/-- Each select step is followed by a sample step (40_reader.md R103). -/
theorem selectTable_next : ∀ x ∈ selectTable, decodePhase x.2.2 ∈ sampleSteps := by
  decide

theorem exec_sampleStep {s : State} {i : Instr} (hi : i ∈ sampleSteps) (hsettled : s.settled = true) :
    exec i s = .next (s.withReader (s.reader.sampled s.cfg.sixLatch s.lineDin i)) := by
  fin_cases hi <;> exact congrArg Host.Outcome.next (if_pos hsettled)

/-- `s` inside a full read: the Reader's registers, the inputs and the turns ahead are the given ones, and the POLL has
left the port. -/
def State.inRead (s : State) (r : Reader) (e : Environment) (us : List Turn) : State :=
  { s with reader := r, env := e, ports := { s.ports with rCmd := none }, agenda := us }

/-- What the environment supplies in one cycle: all six lines, at the levels `d`. -/
def drawn (now : Time) (sel : Option Bool) (d : Lines) : Environment :=
  { now := now, dinDriven := 0b111111, dinLevel := d, selIn := sel }

theorem pulledUp_allDriven (d : Lines) : pulledUp 0b111111 d = d :=
  BitVec.or_zero

theorem lineDin_drawn {s : State} (hapart : s.cfg.wiring = .standAlone) (r : Reader) (now : Time)
    (sel : Option Bool) (d : Lines) (us : List Turn) : (s.inRead r (drawn now sel d) us).lineDin = d :=
  ((s.inRead r (drawn now sel d) us).lineDin_standAlone hapart).trans (pulledUp_allDriven d)

theorem run_succ_of_next (M : Host.Core) {s t : M.State} (h : M.step s = .next t) (n : Nat) :
    M.run (n + 1) s = M.run n t := by
  rw [Host.Core.run, h]

theorem run_succ_of_step {s t : State} (h : step s = .next t) (n : Nat) :
    Host.Core.run core (n + 1) s = Host.Core.run core n t :=
  run_succ_of_next core h n

/-- A micro-step inside a full read. -/
theorem step_inRead {s : State} (hpins : s.pinsOk = true) (r : Reader) (e : Environment) (us : List Turn) :
    step (s.inRead r e (.reader :: us)) = exec (decodePhase r.rPhase) (s.inRead r e us) :=
  stepRunsPhase (s.inRead r e (.reader :: us)) us hpins rfl (.inr rfl)

/-- The three turns of one cycle: the select step `x`, the draw of `d`, and the sample step on `d`. -/
theorem run_standAloneCycle {s : State} (hpins : s.pinsOk = true) (hapart : s.cfg.wiring = .standAlone)
    {x : Instr × Bool × PhaseCode} (hx : x ∈ selectTable) {r : Reader} (hphase : encode x.1 = .phase r.rPhase)
    (n : Nat) (e : Environment) (now : Time) (sel : Option Bool) (d : Lines) (us : List Turn) :
    Host.Core.run core (n + 3) (s.inRead r e (standAloneCycleTurns now sel d ++ us)) =
      Host.Core.run core n (s.inRead (r.cycled s.cfg.sixLatch x d) (drawn now sel d) us) := by
  have hselect : step (s.inRead r e (standAloneCycleTurns now sel d ++ us)) =
      .next (s.inRead (r.selected x) e (.environment now 0b111111 d sel :: .reader :: us)) := by
    refine (step_inRead hpins r e _).trans ?_
    rw [(decodePhase_eq_iff _ _).mpr hphase]
    exact ExecEffect.exec_eq (.select hx)
  have hdraw : step (s.inRead (r.selected x) e (.environment now 0b111111 d sel :: .reader :: us)) =
      .next (s.inRead (r.selected x) (drawn now sel d) (.reader :: us)) :=
    step_of_agenda_move hpins rfl rfl
  have hsample : step (s.inRead (r.selected x) (drawn now sel d) (.reader :: us)) =
      .next (s.inRead (r.cycled s.cfg.sixLatch x d) (drawn now sel d) us) := by
    refine (step_inRead hpins _ _ _).trans ?_
    have hsmp := exec_sampleStep (s := s.inRead (r.selected x) (drawn now sel d) us) (selectTable_next x hx)
      (State.settled_standAlone hapart)
    rwa [lineDin_drawn hapart] at hsmp
  rw [run_succ_of_step hselect, run_succ_of_step hdraw, run_succ_of_step hsample]

/-- Settles O52: the POLL is accepted, six cycles run, and `DONE` responds. -/
theorem standAloneReadIsOneFunction : Obligations.StandAloneReadIsOneFunction := by
  intro s us now sel d0 d1 d2 d3 d4 d5 hpins hapart hidle hcmd hfree hagenda
  have hpoll : step s = .next (s.inRead { s.reader with rState := 0x0000, rNow := s.env.now, rPhase := 0x1 } s.env
      (standAloneCycleTurns now sel d0 ++ (standAloneCycleTurns now sel d1 ++ (standAloneCycleTurns now sel d2 ++
        (standAloneCycleTurns now sel d3 ++ (standAloneCycleTurns now sel d4 ++ (standAloneCycleTurns now sel d5 ++
          (.reader :: us)))))))) := by
    obtain ⟨haccept, -⟩ := stepRunsCommand s _ 0x10000000 .poll hpins
    exact (haccept hagenda hidle hcmd (by decide)).trans (ExecEffect.exec_eq (.pollStart hidle hfree))
  rw [run_succ_of_step hpoll,
    run_standAloneCycle hpins hapart (x := (.sel0, false, 0x2)) (by decide) rfl,
    run_standAloneCycle hpins hapart (x := (.sel1, true, 0x4)) (by decide) rfl,
    run_standAloneCycle hpins hapart (x := (.sel2, false, 0x6)) (by decide) rfl,
    run_standAloneCycle hpins hapart (x := (.sel3, true, 0x8)) (by decide) rfl,
    run_standAloneCycle hpins hapart (x := (.sel4, false, 0xA)) (by decide) rfl,
    run_standAloneCycle hpins hapart (x := (.sel5, true, 0xC)) (by decide) rfl]
  have hdone : step (s.inRead
        { rState := fullReadWord s.cfg.sixLatch s.reader.rSix d2 d3 d4 d5
          rSix := latchSix s.cfg.sixLatch s.reader.rSix d4
          rLast := s.reader.rLast
          rValid := s.reader.rValid
          rPhase := 0xD
          rNow := s.env.now
          rSel := true } (drawn now sel d5) (.reader :: us)) = .next _ :=
    (step_inRead hpins _ _ _).trans (doneStep _)
  rw [← connected_sampled_eq_fullReadSix _ _ _ d3 _ d5]
  rw [← sampled_eq_fullReadWord] at hdone ⊢
  exact run_succ_of_step hdone 0

end Sys2Proof.Machine
end

section
/-! The Writer's patterns line by line (41_writer.md R134 to R138): a drive step writes the pattern of its cycle, whose
six levels `linesOf_getLsbD` reads off. -/

namespace Sys2Proof.Machine

/-- Settles O28: the three drive steps write the CONNECT pattern. -/
theorem connectPattern : Obligations.ConnectPattern := by
  intro s i hi
  have hexec : exec i s = .next (s.withWriter { s.writer with wDout := patConnect s.writer.wTarget }) := by
    fin_cases hi <;> rfl
  exact ⟨_, hexec, linesOf_getLsbD _ _ _ _ _ _⟩

/-- Settles O29: the three drive steps write the BUTTONS pattern. -/
theorem buttonsPattern : Obligations.ButtonsPattern := by
  intro s i hi
  have hexec : exec i s = .next (s.withWriter { s.writer with wDout := patButtons s.writer.wTarget }) := by
    fin_cases hi <;> rfl
  obtain ⟨h0, h1, h2, h3, h4, h5⟩ := linesOf_getLsbD _ _ _ _ _ _
  refine ⟨_, hexec, fun k hk => ?_⟩
  interval_cases k
  · exact h0
  · exact h1
  · exact h2
  · exact h3
  · exact h4
  · exact h5

/-- Settles O30: the drive step of cycle 4 writes the SIXID pattern. -/
theorem sixidPattern : Obligations.SixidPattern := by
  intro s
  obtain ⟨h0, h1, h2, h3, h4, h5⟩ := linesOf_getLsbD _ _ _ _ _ _
  refine ⟨_, exec_decodeCycle 4 s, h0, h1, fun k hle hlt => ?_⟩
  interval_cases k
  · exact h2
  · exact h3
  · exact h4
  · exact h5

/-- Settles O31: the drive step of cycle 5 writes the EXT pattern. -/
theorem extPattern : Obligations.ExtPattern := by
  intro s
  exact ⟨_, exec_decodeCycle 5 s, linesOf_getLsbD _ _ _ _ _ _⟩

/-- Every line of every pattern is gated by the target's CONN (41_writer.md R134). -/
theorem patternOf_of_not_conn {T : PadWord} (hconn : T.getLsbD 0 = false) (c : CycleCode) (six : Bool) :
    patternOf c T six = 0b111111 := by
  unfold patternOf
  split <;>
    simp only [patConnect, patButtons, patSixid, patExt, drivenLow, hconn, Bool.false_and, Bool.not_false] <;> rfl

/-- Settles O32: the drive step writes the pattern of its cycle, which has every line high. -/
theorem disconnectedTargetDrivesHigh : Obligations.DisconnectedTargetDrivesHigh := by
  intro s c hconn
  rw [exec_decodeCycle, patternOf_of_not_conn hconn]
  rfl

end Sys2Proof.Machine
end

section
/-! The Writer's commands (41_writer.md R130 to R133, R139): what a SETSTATE and a SAMPLE write, and the one step that
changes the data lines. -/

namespace Sys2Proof.Machine

/-- Settles O25: the effect of a SETSTATE writes the target and takes the command off the port. -/
theorem setstateStoresTarget : Obligations.SetstateStoresTarget := by
  intro s imm16
  exact ⟨_, ExecEffect.exec_eq (.setstate imm16), rfl, rfl, rfl, rfl, rfl⟩

/-- Settles O26: a SAMPLE takes one of two effects, by whether the select level is the one seen last. -/
theorem sampleObservesSelect : Obligations.SampleObservesSelect := by
  intro s
  by_cases hlevel : s.lineSel = s.writer.wPrevSel
  · exact ⟨_, ExecEffect.exec_eq (.sampleStill hlevel), rfl, rfl, rfl, rfl, fun _ => rfl,
      fun hedge => absurd hlevel hedge⟩
  · exact ⟨_, ExecEffect.exec_eq (.sampleEdge hlevel), rfl, rfl, rfl, rfl, fun hstill => absurd hstill hlevel,
      fun _ => ⟨rfl, rfl, BitVec.toNat_add _ _, rfl⟩⟩

/-- Settles O27: both sides write the pattern of the advanced counter. -/
theorem sampleRunsDriveStep : Obligations.SampleRunsDriveStep := by
  intro s hedge
  rw [exec_decodeCycle]
  exact ExecEffect.exec_eq (.sampleEdge hedge)

/-- After a SAMPLE the level seen is the select level, whether it was an edge or not. -/
theorem lineSel_eq_wPrevSel_of_sample {s t : State} (h : exec .sample s = .next t) :
    t.lineSel = t.writer.wPrevSel := by
  obtain ⟨hstill, hexec⟩ | ⟨-, hexec⟩ := execSample_cases s <;> cases hexec.symm.trans h
  · exact hstill
  · rfl

/-- Settles O34: the second SAMPLE finds the level it saw, so it changes no register. -/
theorem repeatedSampleIsIdempotent : Obligations.RepeatedSampleIsIdempotent := by
  intro s t p h
  have hseen : t.lineSel = t.writer.wPrevSel := lineSel_eq_wPrevSel_of_sample h
  exact ExecEffect.exec_eq (s := { t with ports := p }) (.sampleStill hseen)

/-- A SAMPLE runs at a turn of the Writer with the SAMPLE word on its port. -/
theorem sample_of_fetch_run {u : Turn} {s : State} (h : fetch u s = .run .sample) :
    u = .writer ∧ s.ports.wCmd = some 0x30000000 := by
  obtain ⟨-, hi | hi⟩ | ⟨rfl, -⟩ := fetch_run_cases h
  · cases hi
  · cases (decodePhase_eq_iff _ _).mp hi.symm
  obtain ⟨-, hfetch⟩ | ⟨w, i, hcmd, hdecode, hfetch⟩ | ⟨w, r, -, -, hfetch⟩ := fetchWriter_cases s <;>
    cases hfetch.symm.trans h
  obtain ⟨-, hcode⟩ := (decodeFor_eq_instr_iff _ _ _).mp hdecode
  cases hcode
  exact ⟨rfl, hcmd⟩

theorem State.passTurn_lineSel (s : State) : s.passTurn.lineSel = s.lineSel := by
  simp only [State.lineSel, State.passTurn_cfg, State.passTurn_reader, State.passTurn_env]

/-- A SAMPLE that changes the data lines saw an edge, and they show the pattern of the advanced counter. -/
theorem wDout_of_sample {s t : State} (h : exec .sample s = .next t) (hchange : t.writer.wDout ≠ s.writer.wDout) :
    s.lineSel ≠ s.writer.wPrevSel ∧
      t.writer.wDout = patternOf (s.writer.wCycle + 1) s.writer.wTarget s.cfg.wSix := by
  obtain ⟨-, hexec⟩ | ⟨hedge, hexec⟩ := execSample_cases s <;> cases hexec.symm.trans h
  · exact absurd rfl hchange
  · exact ⟨hedge, rfl⟩

/-- Settles O41: of the instructions a turn runs, and the moves that run none, only a SAMPLE writes the data lines. -/
theorem doutChangesOnlyOnSampledEdge : Obligations.DoutChangesOnlyOnSampledEdge := by
  refine ⟨rfl, fun s t hstep hchange => ?_⟩
  rw [← s.passTurn_writer] at hchange
  obtain ⟨-, ⟨i, hrun, hexec⟩ | hmove⟩ := step_next_cases hstep
  · obtain ⟨-, hi⟩ | ⟨-, rfl | ⟨d, rfl⟩⟩ := fetch_run_cases hrun
    · exact absurd (congrArg Writer.wDout (writer_of_exec_readerStep hi hexec)) hchange
    · obtain ⟨hturn, hcmd⟩ := sample_of_fetch_run hrun
      obtain ⟨hedge, hdout⟩ := wDout_of_sample hexec hchange
      rw [s.passTurn_ports] at hcmd
      rw [s.passTurn_lineSel, s.passTurn_writer] at hedge
      rw [s.passTurn_writer, s.passTurn_cfg] at hdout
      exact ⟨hturn, hcmd, hedge, hdout⟩
    · cases hexec
      exact absurd rfl hchange
  · exact absurd (congrArg Writer.wDout (registers_of_fetch_move hmove).2) hchange

end Sys2Proof.Machine
end

section
/-! Counting alternating levels (41_writer.md R131, R132): the three turns of one level toggle a stand-alone Writer once,
so `n` levels toggle it `n` times. -/

namespace Sys2Proof.Machine

/-- The Writer's registers after a SAMPLE that sees an edge (41_writer.md R131 to R133). -/
def Writer.toggled (six : Bool) (w : Writer) : Writer :=
  { w with
    wPrevSel := !w.wPrevSel
    wCycle := w.wCycle + 1
    wDout := patternOf (w.wCycle + 1) w.wTarget six }

theorem Writer.toggled_iterate_wTarget (six : Bool) (n : Nat) (w : Writer) :
    ((Writer.toggled six)^[n] w).wTarget = w.wTarget := by
  induction n with
  | zero => rfl
  | succ n ih => rwa [Function.iterate_succ_apply']

theorem Writer.toggled_iterate_wCycle (six : Bool) (n : Nat) (w : Writer) :
    ((Writer.toggled six)^[n] w).wCycle = w.wCycle + BitVec.ofNat 3 n := by
  induction n with
  | zero => exact (BitVec.add_zero _).symm
  | succ n ih =>
    rw [Function.iterate_succ_apply', BitVec.ofNat_add, ← BitVec.add_assoc, ← ih]
    rfl

/-- The last toggle leaves the lines at the pattern of the counter it leaves. -/
theorem Writer.toggled_iterate_wDout (six : Bool) {n : Nat} (hn : 0 < n) (w : Writer) :
    ((Writer.toggled six)^[n] w).wDout = patternOf ((Writer.toggled six)^[n] w).wCycle w.wTarget six := by
  obtain ⟨m, rfl⟩ := Nat.exists_eq_add_one.mpr hn
  rw [Function.iterate_succ_apply', ← Writer.toggled_iterate_wTarget six m w]
  rfl

/-- A SAMPLE of a stand-alone Writer whose select input is the level it has not seen. -/
theorem exec_sample_toggled {s : State} (hapart : s.cfg.wiring = .standAlone)
    (hsel : s.env.selIn = some (!s.writer.wPrevSel)) :
    exec .sample s =
      .next ((s.withPorts { s.ports with wCmd := none }).withWriter (s.writer.toggled s.cfg.wSix)) := by
  have hline : s.lineSel = !s.writer.wPrevSel := by rw [s.lineSel_standAlone hapart, hsel, Option.getD_some]
  have hedge : s.lineSel ≠ s.writer.wPrevSel := hline ▸ Bool.not_ne_self _
  rw [Writer.toggled, ← hline]
  exact ExecEffect.exec_eq (.sampleEdge hedge)

/-- `s` while its Writer counts levels: the Writer's registers, the inputs, the word on the Writer's port and the turns
ahead are the given ones. -/
def State.inSamples (s : State) (w : Writer) (e : Environment) (cmd : Option CmdWord) (us : List Turn) : State :=
  { s with writer := w, env := e, ports := { s.ports with wCmd := cmd }, agenda := us }

theorem State.inSamples_self {s : State} (hfree : s.ports.wCmd = none) :
    s.inSamples s.writer s.env none s.agenda = s := by
  rw [State.inSamples, ← hfree]

/-- What the environment supplies at one level `v` (20_memory.md R55). -/
def levelDrawn (now : Time) (driven level : Lines) (v : Bool) : Environment :=
  { now := now, dinDriven := driven, dinLevel := level, selIn := some v }

/-- The three turns of one level: the draw of the level, the offer of a SAMPLE, and the Writer's turn. -/
theorem run_sampleTurns {s : State} (hpins : s.pinsOk = true) (hapart : s.cfg.wiring = .standAlone)
    (w : Writer) (e : Environment) (now : Time) (dr lv : Lines) (us : List Turn) (n : Nat) :
    Host.Core.run core (n + 3) (s.inSamples w e none (sampleTurns now dr lv [!w.wPrevSel] ++ us)) =
      Host.Core.run core n
        (s.inSamples (w.toggled s.cfg.wSix) (levelDrawn now dr lv !w.wPrevSel) none us) := by
  generalize hdrawn : levelDrawn now dr lv (!w.wPrevSel) = e'
  have hdraw : step (s.inSamples w e none (sampleTurns now dr lv [!w.wPrevSel] ++ us)) =
      .next (s.inSamples w e' none (.writerHost 0x30000000 :: .writer :: us)) :=
    hdrawn ▸ step_of_agenda_move hpins rfl rfl
  have hoffer : step (s.inSamples w e' none (.writerHost 0x30000000 :: .writer :: us)) =
      .next (s.inSamples w e' (some 0x30000000) (.writer :: us)) :=
    step_of_agenda_move hpins rfl rfl
  have hsample : step (s.inSamples w e' (some 0x30000000) (.writer :: us)) =
      .next (s.inSamples (w.toggled s.cfg.wSix) e' none us) := by
    obtain ⟨-, haccept⟩ := stepRunsCommand (s.inSamples w e' (some 0x30000000) (.writer :: us)) us _ .sample hpins
    exact (haccept rfl rfl (by decide)).trans (exec_sample_toggled hapart (hdrawn ▸ rfl))
  rw [run_succ_of_step hdraw, run_succ_of_step hoffer, run_succ_of_step hsample]

/-- A run over `n` alternating levels toggles the Writer `n` times. -/
theorem run_alternatingSamples {s : State} (hpins : s.pinsOk = true) (hapart : s.cfg.wiring = .standAlone)
    (now : Time) (dr lv : Lines) (us : List Turn) (n : Nat) (w : Writer) (e : Environment) :
    ∃ e', Host.Core.run core (3 * n)
        (s.inSamples w e none (sampleTurns now dr lv (alternating (!w.wPrevSel) n) ++ us)) =
      .next (s.inSamples ((Writer.toggled s.cfg.wSix)^[n] w) e' none us) := by
  induction n generalizing w e with
  | zero => exact ⟨e, rfl⟩
  | succ n ih =>
    obtain ⟨e', hrest⟩ := ih (w.toggled s.cfg.wSix) (levelDrawn now dr lv !w.wPrevSel)
    exact ⟨e', (run_sampleTurns hpins hapart w e now dr lv _ (3 * n)).trans hrest⟩

/-- Settles O59: the run toggles the Writer `n` times, which counts `n` further and leaves the last counter's pattern. -/
theorem alternatingSamplesCount : Obligations.AlternatingSamplesCount := by
  intro n s us now dr lv hpins hapart hfree hagenda
  obtain ⟨e, hrun⟩ := run_alternatingSamples hpins hapart now dr lv us n s.writer s.env
  rw [← hagenda, State.inSamples_self hfree] at hrun
  exact ⟨_, hrun, rfl, rfl, Writer.toggled_iterate_wTarget _ _ _, Writer.toggled_iterate_wCycle _ _ _,
    fun hn => Writer.toggled_iterate_wDout _ hn _⟩

end Sys2Proof.Machine
end

section
/-! When a step goes on, faults or is refused (60_exceptions.md R160, R163, R164): a used instruction goes on, an unused
phase code faults, and only the pin check refuses. -/

namespace Sys2Proof.Machine

/-- Settles O14: the wait is the effect of IDLE that changes nothing. -/
theorem idleKeepsEverything : Obligations.IdleKeepsEverything := by
  intro s
  exact ExecEffect.exec_eq .idle

theorem exec_next_of_wf {i : Instr} (h : i.wf = true) (s : State) : ∃ t, exec i s = .next t := by
  cases i
  case phaseUnusedE | phaseUnusedF => cases h
  case poll => obtain ⟨-, e⟩ | ⟨-, -, e⟩ | ⟨-, -, e⟩ := execPoll_cases s <;> exact ⟨_, e⟩
  case sample => obtain ⟨-, e⟩ | ⟨-, e⟩ := execSample_cases s <;> exact ⟨_, e⟩
  all_goals exact ⟨_, rfl⟩

theorem exec_fault_of_not_wf {i : Instr} (h : i.wf = false) (s : State) : ∃ f, exec i s = .fault f := by
  cases i
  case phaseUnusedE | phaseUnusedF => exact ⟨_, rfl⟩
  all_goals cases h

theorem exec_ne_refused (i : Instr) (s : State) (r : Refusal) : exec i s ≠ .refused r := by
  cases hwf : i.wf
  · obtain ⟨f, hfault⟩ := exec_fault_of_not_wf hwf s
    simp [hfault]
  · obtain ⟨t, hnext⟩ := exec_next_of_wf hwf s
    simp [hnext]

theorem State.phaseLegal_iff (s : State) : s.phaseLegal ↔ s.reader.rPhase ≠ 0xE ∧ s.reader.rPhase ≠ 0xF := by
  rw [State.phaseLegal]
  generalize s.reader.rPhase = p
  revert p
  decide

/-- With well-formed pins a step runs the instruction fetched or makes the move fetched. -/
theorem step_cases_of_pinsOk {s : State} (hpins : s.pinsOk = true) :
    (∃ i, fetch s.nextTurn s.passTurn = .run i ∧ step s = exec i s.passTurn) ∨
      ∃ t, fetch s.nextTurn s.passTurn = .move t ∧ step s = .next t := by
  cases hfetch : fetch s.nextTurn s.passTurn with
  | run i => exact .inl ⟨i, rfl, step_of_run hpins hfetch⟩
  | move t => exact .inr ⟨t, rfl, step_of_move hpins hfetch⟩

/-- Only a Reader's turn asks for a used phase code. -/
theorem step_next_of_legal_at_reader {s : State} (hpins : s.pinsOk = true)
    (hlegal : s.nextTurn = .reader → s.phaseLegal) : ∃ t, step s = .next t := by
  obtain ⟨i, hrun, hstep⟩ | ⟨t, -, hstep⟩ := step_cases_of_pinsOk hpins
  case inr => exact ⟨t, hstep⟩
  rw [hstep]
  apply exec_next_of_wf
  obtain ⟨hturn, rfl | rfl⟩ | ⟨-, rfl | ⟨d, rfl⟩⟩ := fetch_run_cases hrun
  · rfl
  · rw [s.passTurn_reader]
    exact hlegal hturn
  · rfl
  · rfl

/-- At a Reader's turn outside `IDLE` the step is the micro-step of the phase. -/
theorem step_of_busy_reader {s : State} (hpins : s.pinsOk = true) (hturn : s.nextTurn = .reader)
    (hbusy : s.reader.rPhase ≠ 0) : step s = exec (decodePhase s.reader.rPhase) s.passTurn := by
  apply step_of_run hpins
  rw [← s.passTurn_reader] at hbusy ⊢
  rw [hturn]
  exact fetchReader_of_busy_or_noCmd (.inl hbusy)

theorem State.busy_of_not_phaseLegal {s : State} (h : ¬s.phaseLegal) : s.reader.rPhase ≠ 0 := by
  intro hidle
  exact h (s.phaseLegal_iff.mpr (by simp [hidle]))

/-- Settles O9: a used phase code is used at the Reader's turn too. -/
theorem legalStateAlwaysMoves : Obligations.LegalStateAlwaysMoves := by
  intro s hpins hlegal
  exact step_next_of_legal_at_reader hpins fun _ => hlegal

/-- Settles O10: a step that faults does not go on, so it is a Reader's turn in an unused phase; and that turn runs the
phase code, which faults. -/
theorem faultOnlyInUnusedPhase : Obligations.FaultOnlyInUnusedPhase := by
  intro s hpins
  have hunused : s.reader.rPhase = 0xE ∨ s.reader.rPhase = 0xF ↔ ¬s.phaseLegal := by
    rw [s.phaseLegal_iff, not_and_or, not_ne_iff, not_ne_iff]
  rw [hunused, ← Classical.not_imp]
  constructor
  · rintro ⟨f, hfault⟩ hlegal
    obtain ⟨t, hnext⟩ := step_next_of_legal_at_reader hpins hlegal
    cases hfault.symm.trans hnext
  · intro hillegal
    obtain ⟨hturn, hphase⟩ := Classical.not_imp.mp hillegal
    rw [step_of_busy_reader hpins hturn (State.busy_of_not_phaseLegal hphase)]
    exact exec_fault_of_not_wf (Bool.eq_false_iff.mpr hphase) _

/-- Settles O24: both codes fault by their meaning, and no move of the phase that `fullReadOrder` allows goes to one. -/
theorem unusedPhasesFault : Obligations.UnusedPhasesFault := by
  refine ⟨fun s => ⟨rfl, rfl⟩, by decide, fun s t hE hF hstep => ?_⟩
  obtain ⟨hkept | ⟨-, hstart, -⟩ | ⟨-, hle, hsucc⟩ | ⟨-, hidle⟩, -⟩ := fullReadOrder s t hstep
  · exact hkept ▸ ⟨hE, hF⟩
  · simp [hstart]
  · constructor <;> intro hphase <;> simp only [hphase, BitVec.reduceToNat] at hsucc <;> omega
  · simp [hidle]

/-! The pin check (10_state.md R37, 60_exceptions.md R164). -/

theorem allDistinct_iff_nodup (ns : List Nat) : allDistinct ns = true ↔ ns.Nodup := by
  induction ns with
  | nil => simp [allDistinct]
  | cons n ns ih => simp [allDistinct, ih]

theorem State.pinsOk_iff (s : State) :
    s.pinsOk = true ↔ s.cfg.rPins.lines.Nodup ∧ s.cfg.wPins.lines.Nodup := by
  rw [State.pinsOk, Bool.and_eq_true, PinAssignment.wf, PinAssignment.wf, allDistinct_iff_nodup, allDistinct_iff_nodup]

/-- Settles O47: the pin check is that both instances' lines are distinct; it stands before any turn, and past it neither
an instruction nor a move refuses. -/
theorem malformedPinsHaveNoRun : Obligations.MalformedPinsHaveNoRun := by
  intro s
  rw [← s.pinsOk_iff]
  refine ⟨fun hmalformed => if_neg hmalformed, fun hpins r => ?_⟩
  obtain ⟨i, -, hstep⟩ | ⟨t, -, hstep⟩ := step_cases_of_pinsOk hpins
  · rw [hstep]
    exact exec_ne_refused i _ r
  · simp [hstep]

end Sys2Proof.Machine
end

section
/-! Refused words and the refusal mark (60_exceptions.md R162, 30_encoding.md R79). -/

namespace Sys2Proof.Machine

/-- The turn `u` finds the word `w` on its port and the component refuses it for the reason `x`; the Reader looks at a
word only in `IDLE` (log 9). -/
def State.refusesAt (s : State) (u : Turn) (w : CmdWord) (x : CmdReject) : Prop :=
  (u = .writer ∧ s.ports.wCmd = some w ∧ decodeFor .writer w = .reject x) ∨
    (u = .reader ∧ s.reader.rPhase = 0 ∧ s.ports.rCmd = some w ∧ decodeFor .reader w = .reject x)

theorem State.passTurn_refusesAt (s : State) (u : Turn) (w : CmdWord) (x : CmdReject) :
    s.passTurn.refusesAt u w x ↔ s.refusesAt u w x := by
  simp [State.refusesAt]

/-- A refused word leaves its port and sets the mark. -/
theorem fetch_of_refusesAt {s : State} {u : Turn} {w : CmdWord} {x : CmdReject} (h : s.refusesAt u w x) :
    ∃ p, fetch u s = .move (s.withPorts p).markRefusal ∧ p.resp = s.ports.resp := by
  obtain ⟨rfl, hcmd, hreject⟩ | ⟨rfl, hidle, hcmd, hreject⟩ := h
  · exact ⟨{ s.ports with wCmd := none }, by simp [fetch, fetchWriter, hcmd, hreject], rfl⟩
  · exact ⟨{ s.ports with rCmd := none },
      by simp [fetch, fetchReader, s.cmdReady_iff.mpr hidle, hcmd, hreject], rfl⟩

/-- A move that runs no instruction keeps the mark, or sets it for a word refused. -/
theorem refusalMark_of_fetch_move {u : Turn} {s t : State} (h : fetch u s = .move t) :
    t.refusalMark = s.refusalMark ∨ (t.refusalMark = true ∧ ∃ w x, s.refusesAt u w x) := by
  cases u with
  | reader =>
    obtain ⟨-, w, i, -, -, hfetch⟩ | ⟨hready, w, x, hcmd, hreject, hfetch⟩ | ⟨-, hfetch⟩ := fetchReader_cases s <;>
      cases hfetch.symm.trans h
    exact .inr ⟨rfl, w, x, .inr ⟨rfl, s.cmdReady_iff.mp hready, hcmd, hreject⟩⟩
  | writer =>
    obtain ⟨-, hfetch⟩ | ⟨w, i, -, -, hfetch⟩ | ⟨w, x, hcmd, hreject, hfetch⟩ := fetchWriter_cases s <;>
      cases hfetch.symm.trans h
    · exact .inl rfl
    · exact .inr ⟨rfl, w, x, .inl ⟨rfl, hcmd, hreject⟩⟩
  | readerHost w =>
    cases h
    exact .inl (by rw [s.offerReader_eq_withPorts, s.withPorts_refusalMark])
  | writerHost w =>
    cases h
    exact .inl (by rw [s.offerWriter_eq_withPorts, s.withPorts_refusalMark])
  | environment =>
    cases h
    exact .inl rfl

/-- A step keeps the mark, or sets it for a word refused. -/
theorem refusalMark_of_step {s t : State} (h : step s = .next t) :
    t.refusalMark = s.refusalMark ∨ (t.refusalMark = true ∧ ∃ w x, s.refusesAt s.nextTurn w x) := by
  obtain ⟨-, ⟨i, -, hexec⟩ | hmove⟩ := step_next_cases h
  · obtain ⟨-, -, hmark, -⟩ := instructionOuterFrame i _ t hexec
    exact .inl (hmark.trans s.passTurn_refusalMark)
  · have hmark := refusalMark_of_fetch_move hmove
    simpa only [s.passTurn_refusalMark, s.passTurn_refusesAt] using hmark

/-- Settles O45: a step keeps the mark or sets it, and the move of a refused word writes its port and the mark only. -/
theorem refusedWordSetsTheMark : Obligations.RefusedWordSetsTheMark := by
  refine ⟨fun s t hstep hset => ?_, fun s w x hpins hrefused => ?_⟩
  · obtain hkept | ⟨hmark, -⟩ := refusalMark_of_step hstep
    · exact hkept.trans hset
    · exact hmark
  · have hrefuses : s.refusesAt s.nextTurn w x := hrefused
    obtain ⟨p, hmove, hresp⟩ := fetch_of_refusesAt ((s.passTurn_refusesAt _ w x).mpr hrefuses)
    rw [s.passTurn_ports] at hresp
    exact ⟨_, step_of_move hpins hmove, rfl, s.passTurn_reader, s.passTurn_writer, hresp, s.passTurn_cfg⟩

/-- Settles O46: a step that does not keep the mark refused a word. -/
theorem onlyARefusedWordSetsTheMark : Obligations.OnlyARefusedWordSetsTheMark := by
  intro s t hstep hclear hset
  obtain hkept | ⟨-, hrefused⟩ := refusalMark_of_step hstep
  · cases hset.symm.trans (hkept.trans hclear)
  · exact hrefused

end Sys2Proof.Machine
end

section
/-! The hold of a sample step (20_memory.md R58, 60_exceptions.md R165). -/

namespace Sys2Proof.Machine

theorem decodePhase_mem_sampleSteps :
    ∀ p, isSmpPhase p = true → p ≠ 0 ∧ decodePhase p ∈ sampleSteps := by
  decide

/-- A Reader's turn in a sample step that waits for the Writer only passes the turn. -/
theorem step_of_unsettled_sample {s t : State} (hcomposed : s.cfg.wiring = .composed)
    (henforced : s.cfg.settle = .enforced) (hsmp : isSmpPhase s.reader.rPhase = true)
    (hunseen : s.writer.wPrevSel ≠ s.reader.rSel) (hturn : s.nextTurn = .reader) (h : step s = .next t) :
    t = s.passTurn := by
  obtain ⟨hbusy, hmem⟩ := decodePhase_mem_sampleSteps _ hsmp
  obtain ⟨hpins, -⟩ := step_next_cases h
  rw [← s.passTurn_cfg] at hcomposed henforced
  rw [← s.passTurn_writer, ← s.passTurn_reader] at hunseen
  rw [step_of_busy_reader hpins hturn hbusy,
    unsettledSampleHolds _ hcomposed henforced hunseen _ hmem] at h
  exact (Host.Outcome.next.inj h).symm

/-- The level the Writer saw last changes only in a SAMPLE of the Writer (41_writer.md R131). -/
theorem sample_of_wPrevSel_changed {s t : State} (h : step s = .next t)
    (hchange : t.writer.wPrevSel ≠ s.writer.wPrevSel) : s.nextTurn = .writer ∧ s.ports.wCmd = some 0x30000000 := by
  rw [← s.passTurn_writer] at hchange
  obtain ⟨-, ⟨i, hrun, hexec⟩ | hmove⟩ := step_next_cases h
  · obtain ⟨-, hframe, -⟩ := writerRegisterFrame i _ t hexec
    obtain rfl : i = .sample := by
      by_contra hother
      exact hchange (hframe hother).2
    rw [← s.passTurn_ports]
    exact sample_of_fetch_run hrun
  · exact absurd (congrArg Writer.wPrevSel (registers_of_fetch_move hmove).2) hchange

/-- Settles O44: the Reader's own turn is a hold and the other turns leave the Reader, so the levels agree afterwards only
when the Writer's level changed. -/
theorem holdLiftedOnlyBySample : Obligations.HoldLiftedOnlyBySample := by
  intro s t hcomposed henforced hsmp hunseen hstep
  have hreader : t.reader = s.reader := by
    by_cases hturn : s.nextTurn = .reader
    · rw [step_of_unsettled_sample hcomposed henforced hsmp hunseen hturn hstep, s.passTurn_reader]
    · obtain ⟨-, hframe, -⟩ := ownStepsOnly s t hstep
      exact hframe hturn
  refine ⟨hreader, fun hseen => sample_of_wPrevSel_changed hstep fun hkept => hunseen ?_⟩
  rw [← hkept, hseen, hreader]

end Sys2Proof.Machine
end

section
/-! Reset and the count of edges (70_reset_and_hazards.md R180, R181, R185, R188): no edge is missed under `ENFORCED`,
and an even number is lost between two SAMPLEs. -/

namespace Sys2Proof.Machine

/-- Settles O48: the fields of `Reader.reset`, `Writer.reset` and `HostPorts.reset`. -/
theorem resetValues : Obligations.ResetValues :=
  ⟨rfl, rfl, rfl⟩

/-- Settles O58: the levels differ exactly for odd `m`, and a SAMPLE counts one edge or none by whether they differ. -/
theorem lostEdgesAreEven : Obligations.LostEdgesAreEven := by
  intro s m hlevel
  have hsum : m = m % 2 + 2 * (m / 2) := (Nat.mod_add_div m 2).symm
  obtain heven | hodd := Nat.mod_two_eq_zero_or_one m
  · have hstill : s.lineSel = s.writer.wPrevSel := by simp [hlevel, heven]
    exact ⟨_, m / 2, ExecEffect.exec_eq (.sampleStill hstill), hsum, hstill.symm, heven ▸ (BitVec.add_zero _).symm⟩
  · have hedge : s.lineSel ≠ s.writer.wPrevSel := by simp [hlevel, hodd]
    exact ⟨_, m / 2, ExecEffect.exec_eq (.sampleEdge hedge), hsum, rfl, hodd ▸ rfl⟩

/-- Settles O60: the Writer is built with the level high, so the low select is an edge; the counter wraps from 7 to 0 and
the target 0 drives every line high. -/
theorem lateWriterStartsAtCycleZero : Obligations.LateWriterStartsAtCycleZero := by
  intro s hlow
  have hline : s.rebuildWriter.lineSel = false := hlow
  have hedge : s.rebuildWriter.lineSel ≠ s.rebuildWriter.writer.wPrevSel := by
    rw [hline]
    exact Bool.false_ne_true
  have hconn : s.rebuildWriter.writer.wTarget.getLsbD 0 = false := BitVec.getLsbD_zero
  refine ⟨_, ExecEffect.exec_eq (.sampleEdge hedge), rfl, ?_⟩
  rw [hline, patternOf_of_not_conn hconn]
  simp [Writer.reset]

theorem selectTable_isSmpPhase : ∀ x ∈ selectTable, isSmpPhase x.2.2 = true := by
  decide

/-- A SAMPLE sees the present level, a select step enters a sample step, and a sample step fires only when the Writer has
seen the level; no other instruction changes either level or leaves a sample step. -/
theorem exec_misses_no_edge {i : Instr} {s t : State} (hexec : exec i s = .next t)
    (hphase : ∀ p, encode i = .phase p → s.reader.rPhase = p) (h : s.noEdgeMissed) : t.noEdgeMissed := by
  cases exec_next_effect hexec with
  | pollHeld | pollCached | setstate | sampleStill | idle | smpHeld | drive => exact h
  | pollStart hidle => exact fun hcomposed henforced _ => h hcomposed henforced (hidle ▸ rfl)
  | sampleEdge => exact fun hcomposed _ _ => s.lineSel_composed hcomposed
  | select hx => exact fun _ _ houtside => absurd (selectTable_isSmpPhase _ hx) (Bool.eq_false_iff.mp houtside)
  | smp0 hsettled | smp1 hsettled | smp2 hsettled | smp3 hsettled | smp4 hsettled | smp5 hsettled =>
    exact fun hcomposed henforced _ => s.settled_iff.mp hsettled hcomposed henforced
  | done => exact fun hcomposed henforced _ => h hcomposed henforced (hphase _ rfl ▸ rfl)

/-- `noEdgeMissed` speaks of the configuration and the registers only. -/
theorem State.noEdgeMissed_congr {s t : State} (hcfg : t.cfg = s.cfg) (hr : t.reader = s.reader)
    (hw : t.writer = s.writer) : t.noEdgeMissed ↔ s.noEdgeMissed := by
  rw [State.noEdgeMissed, State.noEdgeMissed, hcfg, hr, hw]

/-- Settles O51: a step runs an instruction in its place, or makes a move that writes no register. -/
theorem stepMissesNoEdge : Obligations.StepMissesNoEdge := by
  intro s t h hstep
  have hpass : s.passTurn.noEdgeMissed :=
    (State.noEdgeMissed_congr s.passTurn_cfg s.passTurn_reader s.passTurn_writer).mpr h
  obtain ⟨-, ⟨i, hrun, hexec⟩ | hmove⟩ := step_next_cases hstep
  · exact exec_misses_no_edge hexec (fun p => phase_of_fetch_run hrun) hpass
  · obtain ⟨p, e, m, rfl⟩ := fetch_move_eq hmove
    exact hpass

end Sys2Proof.Machine
end

section
/-! Runs and schedules: an induction over the steps of a run, and what a schedule without SETSTATE means for one step
(70_reset_and_hazards.md R185). -/

namespace Sys2Proof.Machine

/-- A predicate that counts down with each step holds with count 0 at the end of a run of its count. -/
theorem run_induction {P : Nat → State → Prop}
    (hkeep : ∀ {n s t}, P (n + 1) s → step s = .next t → P n t) {n : Nat} {s t : State} (h : P n s)
    (hrun : Host.Core.run core n s = .next t) : P 0 t := by
  induction n generalizing s with
  | zero =>
    cases hrun
    exact h
  | succ n ih =>
    cases hstep : step s with
    | next u => exact ih (hkeep h hstep) ((run_succ_of_step hstep n).symm.trans hrun)
    | fault f =>
      have hstop : Host.Core.run core (n + 1) s = .fault f := by simp [Host.Core.run, core, hstep]
      cases hstop.symm.trans hrun
    | refused r =>
      have hstop : Host.Core.run core (n + 1) s = .refused r := by simp [Host.Core.run, core, hstep]
      cases hstop.symm.trans hrun

/-- A step uses up one turn. -/
theorem agenda_of_step {s t : State} (h : step s = .next t) : t.agenda = s.passTurn.agenda := by
  obtain ⟨-, ⟨i, -, hexec⟩ | hmove⟩ := step_next_cases h
  · obtain ⟨-, -, -, hagenda, -⟩ := instructionOuterFrame i _ t hexec
    exact hagenda
  · obtain ⟨p, e, m, rfl⟩ := fetch_move_eq hmove
    rfl

/-- A word on the Writer's port after a move stood there before, or its host offered it in that turn. -/
theorem wCmd_of_fetch_move {u : Turn} {s t : State} {w : CmdWord} (h : fetch u s = .move t)
    (hw : t.ports.wCmd = some w) : s.ports.wCmd = some w ∨ u = .writerHost w := by
  cases u with
  | reader =>
    obtain ⟨-, v, i, -, -, hfetch⟩ | ⟨-, v, r, -, -, hfetch⟩ | ⟨-, hfetch⟩ := fetchReader_cases s <;>
      cases hfetch.symm.trans h
    exact .inl hw
  | writer =>
    obtain ⟨-, hfetch⟩ | ⟨v, i, -, -, hfetch⟩ | ⟨v, r, -, -, hfetch⟩ := fetchWriter_cases s <;>
      cases hfetch.symm.trans h
    · exact .inl hw
    · cases hw
  | readerHost v =>
    cases h
    rw [s.offerReader_eq_withPorts] at hw
    exact .inl hw
  | writerHost v =>
    cases h
    obtain ⟨-, hoffer⟩ | ⟨-, hoffer⟩ := s.offerWriter_cases v <;> rw [hoffer] at hw
    · exact .inr (congrArg Turn.writerHost (Option.some.inj hw))
    · exact .inl hw
  | environment =>
    cases h
    exact .inl hw

/-- The same after a step: no instruction puts a word on the Writer's port. -/
theorem wCmd_of_step {s t : State} {w : CmdWord} (h : step s = .next t) (hw : t.ports.wCmd = some w) :
    s.ports.wCmd = some w ∨ s.nextTurn = .writerHost w := by
  rw [← s.passTurn_ports]
  obtain ⟨-, ⟨i, -, hexec⟩ | hmove⟩ := step_next_cases h
  · obtain ⟨-, hemptied, hkept⟩ := acceptedCommandLeavesPort i _ t hexec
    by_cases hi : i = .sample ∨ ∃ d, i = .setstate d
    · cases (hemptied hi).symm.trans hw
    · rw [not_or, not_exists] at hi
      exact .inl ((hkept hi.1 hi.2).symm.trans hw)
  · exact wCmd_of_fetch_move hmove hw

theorem State.noSetstate_of_step {n : Nat} {s t : State} (h : s.noSetstate (n + 1)) (hstep : step s = .next t) :
    t.noSetstate n := by
  obtain ⟨hlength, hport, hturns⟩ := h
  cases hagenda : s.agenda with
  | nil => simp [hagenda] at hlength
  | cons u us =>
    have hrest : t.agenda = us := by rw [agenda_of_step hstep, s.passTurn_of_agenda u us hagenda]
    rw [hagenda] at hlength hturns
    refine ⟨?_, fun w hw => ?_, fun v hv => hturns v (List.mem_cons_of_mem u (hrest ▸ hv))⟩
    · rw [hrest]
      exact Nat.le_of_succ_le_succ hlength
    · obtain hstood | hoffered := wCmd_of_step hstep hw
      · exact hport w hstood
      · rw [s.nextTurn_of_agenda u us hagenda] at hoffered
        exact hturns (.writerHost w) (hoffered ▸ List.mem_cons_self)

/-- A SETSTATE that runs stood on the Writer's port. -/
theorem setstate_of_fetch_run {u : Turn} {s : State} {d : PadWord} (h : fetch u s = .run (.setstate d)) :
    ∃ w, s.ports.wCmd = some w ∧ isSetstateWord w = true := by
  obtain ⟨-, hi | hi⟩ | ⟨rfl, -⟩ := fetch_run_cases h
  · cases hi
  · cases (decodePhase_eq_iff _ _).mp hi.symm
  obtain ⟨-, hfetch⟩ | ⟨w, i, hcmd, hdecode, hfetch⟩ | ⟨w, r, -, -, hfetch⟩ := fetchWriter_cases s <;>
    cases hfetch.symm.trans h
  exact ⟨w, hcmd, by simp [isSetstateWord, hdecode]⟩

theorem encode_driveSteps : ∀ i ∈ driveSteps, ∃ c, encode i = .cycle c := by
  decide

/-- No turn runs a drive step by itself: it is the last part of a SAMPLE (41_writer.md R133). -/
theorem not_driveStep_of_fetch_run {u : Turn} {s : State} {i : Instr} (h : fetch u s = .run i) : i ∉ driveSteps := by
  intro hdrive
  obtain ⟨c, hcode⟩ := encode_driveSteps i hdrive
  obtain ⟨-, rfl | rfl⟩ | ⟨-, rfl | ⟨d, rfl⟩⟩ := fetch_run_cases h
  · cases hcode
  · cases (encode_decodePhase _).symm.trans hcode
  · cases hcode
  · cases hcode

end Sys2Proof.Machine
end

section
/-! A full read of a composed pair under `ENFORCED`, for every schedule (70_reset_and_hazards.md R185): inside the read
the Writer has counted every edge driven but at most the last one, so each sample step finds the pattern of its cycle. -/

namespace Sys2Proof.Machine

/-! What the read that starts in `s` comes to. -/

/-- The lines of the Writer's cycle `k` counts after `s`, with the target it has in `s`. -/
def State.patternAfter (s : State) (k : CycleCode) : Lines :=
  patternOf (s.writer.wCycle + k) s.writer.wTarget s.cfg.wSix

/-- `r_six` after the first `k` sample steps of the read (40_reader.md R108). -/
def State.sixAfter (s : State) (k : Nat) : Bool :=
  if k ≤ 4 then s.reader.rSix else latchSix s.cfg.sixLatch s.reader.rSix (s.patternAfter 5)

/-- `r_state` after the first `k` sample steps of the read (40_reader.md R104 to R109). -/
def State.padAfter (s : State) : Nat → PadWord
  | 0 | 1 | 2 => 0
  | 3 => sampleConnect 0 (s.patternAfter 3)
  | 4 | 5 => sampleButtons (sampleConnect 0 (s.patternAfter 3)) (s.patternAfter 4)
  | _ => sampleExt (sampleButtons (sampleConnect 0 (s.patternAfter 3)) (s.patternAfter 4)) (s.sixAfter 6)
      (s.patternAfter 6)

/-- The word the read responds with (40_reader.md R112). -/
def State.readWord (s : State) : PadWord :=
  fullReadWord s.cfg.sixLatch s.reader.rSix (s.patternAfter 3) (s.patternAfter 4) (s.patternAfter 5) (s.patternAfter 6)

/-- `r_six` after the read (40_reader.md R112). -/
def State.readSix (s : State) : Bool :=
  fullReadSix s.cfg.sixLatch s.reader.rSix (s.patternAfter 3) (s.patternAfter 5)

theorem State.padAfter_six (s : State) : s.padAfter 6 = s.readWord :=
  sampled_eq_fullReadWord _ _ _ _ _ _

/-- How many select steps a full read has done in the phase (30_encoding.md R80). -/
def edgesDriven (p : PhaseCode) : CycleCode :=
  p.extractLsb' 1 3

/-- How many sample steps a full read has done in the phase (30_encoding.md R80). -/
def samplesDone (p : PhaseCode) : Nat :=
  (p.toNat - 1) / 2

/-- The edges of the select line that the Writer has not counted yet. -/
def State.unseenEdges (t : State) : CycleCode :=
  if t.writer.wPrevSel = t.reader.rSel then 0 else 1

theorem State.unseenEdges_of_seen {t : State} (h : t.writer.wPrevSel = t.reader.rSel) : t.unseenEdges = 0 :=
  if_pos h

theorem State.unseenEdges_of_unseen {t : State} (h : t.writer.wPrevSel ≠ t.reader.rSel) : t.unseenEdges = 1 :=
  if_neg h

/-- `t` is inside the full read that starts in `s`. The Reader's word and flag are those of the sample steps done, the
Writer's counter falls short of the edges driven by the edges it has not seen, and once it has seen them all it drives the
pattern of the last one (70_reset_and_hazards.md R185, R188). -/
structure State.Reading (s t : State) : Prop where
  cfg : t.cfg = s.cfg
  target : t.writer.wTarget = s.writer.wTarget
  resp : t.ports.resp = s.ports.resp
  busy : t.reader.rPhase ≠ 0
  sel : t.selMatchesPhase
  pad : t.reader.rState = s.padAfter (samplesDone t.reader.rPhase)
  six : t.reader.rSix = s.sixAfter (samplesDone t.reader.rPhase)
  seen : t.noEdgeMissed
  count : t.writer.wCycle + t.unseenEdges = s.writer.wCycle + edgesDriven t.reader.rPhase
  lines : t.writer.wPrevSel = t.reader.rSel → t.reader.rPhase ≠ 1 →
    t.writer.wDout = s.patternAfter (edgesDriven t.reader.rPhase)

/-- `t` comes after the response of the full read that starts in `s`. -/
def State.Answered (s t : State) : Prop :=
  ∃ rest, t.ports.resp = s.ports.resp ++ s.readWord :: rest ∧
    (rest = [] → t.reader.rPhase = 0 → t.reader.rSix = s.readSix)

theorem State.ReadStarted.reading {s : State} (h : s.ReadStarted) : s.Reading s := by
  obtain ⟨-, -, -, hphase, hpad, hsel, hseen⟩ := h
  have hlevel : s.writer.wPrevSel = s.reader.rSel := hseen.trans hsel.symm
  constructor
  case cfg | target | resp => rfl
  case busy => rw [hphase]; decide
  case sel => rw [State.selMatchesPhase, hphase, hsel]; rfl
  case pad => rw [hphase, hpad]; rfl
  case six => rw [hphase]; rfl
  case seen => exact fun _ _ _ => hlevel
  case count => rw [State.unseenEdges, if_pos hlevel, hphase]; rfl
  case lines => exact fun _ hlater => absurd hphase hlater

section
variable {s t u : State}

/-! Steps that leave the registers, and the Writer's own. -/

theorem State.Reading.congr (h : s.Reading t) (hcfg : u.cfg = t.cfg) (hr : u.reader = t.reader)
    (hw : u.writer = t.writer) (hresp : u.ports.resp = t.ports.resp) : s.Reading u := by
  obtain ⟨hcfg', htarget, hresp', hbusy, hsel, hpad, hsix, hseen, hcount, hlines⟩ := h
  constructor
  case cfg => exact hcfg.trans hcfg'
  case resp => exact hresp.trans hresp'
  case seen => exact (State.noEdgeMissed_congr hcfg hr hw).mpr hseen
  all_goals simpa only [State.selMatchesPhase, State.unseenEdges, hr, hw]

/-- A SAMPLE that sees an edge counts the one edge the Writer had not seen. -/
theorem State.Reading.countEdge (h : s.Reading t) (hs : s.ReadStarted) (hedge : t.lineSel ≠ t.writer.wPrevSel) :
    s.Reading (t.withWriter
      { t.writer with
        wPrevSel := t.lineSel
        wCycle := t.writer.wCycle + 1
        wDout := patternOf (t.writer.wCycle + 1) t.writer.wTarget t.cfg.wSix }) := by
  have hline : t.lineSel = t.reader.rSel := t.lineSel_composed (h.cfg ▸ hs.composed)
  have hcount : t.writer.wCycle + 1 = s.writer.wCycle + edgesDriven t.reader.rPhase := by
    rw [← h.count, State.unseenEdges_of_unseen fun hseen => hedge (hline.trans hseen.symm)]
  refine { h with seen := fun _ _ _ => hline, count := ?_, lines := fun _ _ => ?_ }
  · rw [State.unseenEdges_of_seen hline]
    exact (BitVec.add_zero _).trans hcount
  · simp only [State.withWriter_writer, State.withWriter_reader, State.patternAfter, hcount, h.target, h.cfg]

/-! The Reader's select and sample steps, and `DONE`. -/

/-- A select step, from the phase `p`, is one more edge and no more samples; its level is the complement of the level in
`p`. -/
theorem selectTable_edgesDriven :
    ∀ x ∈ selectTable, ∃ p, encode x.1 = .phase p ∧ isSmpPhase p = false ∧ x.2.2 ≠ 0 ∧ x.2.1 = p.getLsbD 1 ∧
      x.2.1 = !x.2.2.getLsbD 1 ∧ edgesDriven x.2.2 = edgesDriven p + 1 ∧ samplesDone x.2.2 = samplesDone p := by
  decide

theorem State.Reading.select (h : s.Reading t) (hs : s.ReadStarted) {x : Instr × Bool × PhaseCode}
    (hx : x ∈ selectTable) (hphase : ∀ p, encode x.1 = .phase p → t.reader.rPhase = p) :
    s.Reading (t.withReader { t.reader with rSel := x.2.1, rPhase := x.2.2 }) := by
  obtain ⟨p, hcode, houtside, hbusy, hlevel, hsel, hedges, hsamples⟩ := selectTable_edgesDriven x hx
  obtain rfl := hphase p hcode
  have hseen : t.writer.wPrevSel = t.reader.rSel := h.seen (h.cfg ▸ hs.composed) (h.cfg ▸ hs.enforced) houtside
  have hunseen : t.writer.wPrevSel ≠ x.2.1 := by
    rw [hseen, h.sel, hlevel]
    exact Bool.not_ne_self _
  have hcount : t.writer.wCycle = s.writer.wCycle + edgesDriven t.reader.rPhase := by
    rw [← h.count, State.unseenEdges_of_seen hseen]
    exact (BitVec.add_zero _).symm
  refine { h with busy := hbusy, sel := hsel, pad := ?_, six := ?_, seen := ?_, count := ?_, lines := ?_ }
  · exact h.pad.trans (congrArg s.padAfter hsamples.symm)
  · exact h.six.trans (congrArg s.sixAfter hsamples.symm)
  · exact fun _ _ hlate => absurd (selectTable_isSmpPhase x hx) (Bool.eq_false_iff.mp hlate)
  · rw [State.unseenEdges_of_unseen hunseen]
    simp only [State.withReader_writer, State.withReader_reader, hcount, hedges, BitVec.add_assoc]
  · exact fun hnow => absurd hnow hunseen

/-- A sample step, in the phase `p`, is no more edges and keeps the select level. -/
theorem sampleSteps_edgesDriven :
    ∀ i ∈ sampleSteps, ∃ p, encode i = .phase p ∧ p ≠ 1 ∧ p + 1 ≠ 0 ∧ (p + 1).getLsbD 1 = p.getLsbD 1 ∧
      edgesDriven (p + 1) = edgesDriven p := by
  decide

/-- A sample step on the pattern of the edge its cycle has driven goes on from the word and the flag of the read. -/
theorem Reader.sampled_after (s : State) {i : Instr} (hi : i ∈ sampleSteps) {r : Reader}
    (hphase : encode i = .phase r.rPhase) (hpad : r.rState = s.padAfter (samplesDone r.rPhase))
    (hsix : r.rSix = s.sixAfter (samplesDone r.rPhase)) :
    r.sampled s.cfg.sixLatch (s.patternAfter (edgesDriven r.rPhase)) i =
      { r with
        rState := s.padAfter (samplesDone (r.rPhase + 1))
        rSix := s.sixAfter (samplesDone (r.rPhase + 1))
        rPhase := r.rPhase + 1 } := by
  obtain ⟨st, six, last, valid, p, now, sel⟩ := r
  dsimp only at hphase hpad hsix ⊢
  subst hpad hsix
  fin_cases hi <;> obtain rfl := Code.phase.inj hphase <;> rfl

/-- A sample step that fires finds the pattern of the edge its cycle has driven. -/
theorem State.Reading.sample (h : s.Reading t) (hs : s.ReadStarted) (hsettled : t.settled = true) {i : Instr}
    (hi : i ∈ sampleSteps) (hphase : ∀ p, encode i = .phase p → t.reader.rPhase = p) :
    s.Reading (t.withReader (t.reader.sampled t.cfg.sixLatch t.lineDin i)) := by
  obtain ⟨p, hcode, hlater, hbusy, hbit, hedges⟩ := sampleSteps_edgesDriven i hi
  obtain rfl := hphase p hcode
  have hseen : t.writer.wPrevSel = t.reader.rSel :=
    t.settled_iff.mp hsettled (h.cfg ▸ hs.composed) (h.cfg ▸ hs.enforced)
  have hlines := h.lines hseen hlater
  rw [t.lineDin_composed (h.cfg ▸ hs.composed), hlines, h.cfg, Reader.sampled_after s hi hcode h.pad h.six]
  refine { h with
    busy := hbusy, sel := ?_, pad := rfl, six := rfl, seen := fun _ _ _ => hseen, count := ?_, lines := ?_ }
  · exact h.sel.trans (congrArg (!·) hbit.symm)
  · exact h.count.trans (congrArg (s.writer.wCycle + ·) hedges.symm)
  · exact fun _ _ => hlines.trans (congrArg s.patternAfter hedges.symm)

/-- `DONE` responds with the word of the read (40_reader.md R110, R112). -/
theorem State.Reading.finishRead (h : s.Reading t) (hdone : t.reader.rPhase = 0xD) : s.Answered t.finishRead := by
  have hpad : t.reader.rState = s.readWord := by
    rw [h.pad, hdone]
    exact s.padAfter_six
  have hsix : t.reader.rSix = latchSix s.cfg.sixLatch s.reader.rSix (s.patternAfter 5) := by
    rw [h.six, hdone]
    rfl
  refine ⟨[], ?_, fun _ _ => ?_⟩
  · rw [← h.resp, ← hpad]
    rfl
  · rw [Host.Outcome.next.inj (doneStep t), hsix, hpad]
    exact connected_sampled_eq_fullReadSix _ _ _ _ _ _

/-- An instruction that runs in its place stays in the read or ends it with its response. -/
theorem State.Reading.exec_next {i : Instr} (h : s.Reading t) (hs : s.ReadStarted) (hexec : exec i t = .next u)
    (hphase : ∀ p, encode i = .phase p → t.reader.rPhase = p) (hset : ∀ d, i ≠ .setstate d)
    (hdrive : i ∉ driveSteps) : s.Reading u ∨ s.Answered u := by
  cases exec_next_effect hexec with
  | pollHeld | idle | smpHeld => exact .inl h
  | pollCached hidle | pollStart hidle => exact absurd hidle h.busy
  | setstate d => exact absurd rfl (hset d)
  | sampleStill => exact .inl (h.congr rfl rfl rfl rfl)
  | sampleEdge hedge => exact .inl ((h.countEdge hs hedge).congr rfl rfl rfl rfl)
  | select hx => exact .inl (h.select hs hx hphase)
  | smp0 hsettled | smp1 hsettled | smp2 hsettled | smp3 hsettled | smp4 hsettled | smp5 hsettled =>
    have hfires := h.sample hs hsettled (by decide) hphase
    exact .inl hfires
  | done => exact .inr (h.finishRead (hphase 0xD rfl))
  | drive hi => exact absurd hi hdrive

/-- A step under a schedule without SETSTATE stays in the read or ends it with its response. -/
theorem State.Reading.step_next {n : Nat} (h : s.Reading t) (hs : s.ReadStarted) (hset : t.noSetstate n)
    (hstep : step t = .next u) : s.Reading u ∨ s.Answered u := by
  have hpass : s.Reading t.passTurn :=
    h.congr t.passTurn_cfg t.passTurn_reader t.passTurn_writer (congrArg HostPorts.resp t.passTurn_ports)
  obtain ⟨-, ⟨i, hrun, hexec⟩ | hmove⟩ := step_next_cases hstep
  · refine hpass.exec_next hs hexec (fun p => phase_of_fetch_run hrun) ?_ (not_driveStep_of_fetch_run hrun)
    rintro d rfl
    obtain ⟨w, hw, hsetstate⟩ := setstate_of_fetch_run hrun
    rw [t.passTurn_ports] at hw
    obtain ⟨-, hport, -⟩ := hset
    exact absurd (hport w hw) (by simp [hsetstate])
  · obtain ⟨hr, hw⟩ := registers_of_fetch_move hmove
    obtain ⟨hresp, -⟩ := ports_of_fetch_move hmove
    obtain ⟨p, e, m, rfl⟩ := fetch_move_eq hmove
    exact .inl (hpass.congr rfl rfl rfl hresp)

/-! After the response. -/

/-- An instruction that leaves the Reader in `IDLE` without a response found it there and kept the six-button flag. -/
theorem rSix_of_exec_to_idle {i : Instr} (hexec : exec i t = .next u) (hidle : u.reader.rPhase = 0)
    (hresp : u.ports.resp = t.ports.resp) : t.reader.rPhase = 0 ∧ u.reader.rSix = t.reader.rSix := by
  cases exec_next_effect hexec with
  | pollHeld | pollCached | setstate | sampleStill | sampleEdge | idle | smpHeld | drive => exact ⟨hidle, rfl⟩
  | pollStart | smp0 | smp1 | smp2 | smp3 | smp4 | smp5 => cases hidle
  | select hx => fin_cases hx <;> cases hidle
  | done => simp at hresp

theorem rSix_of_step_to_idle (hstep : step t = .next u) (hidle : u.reader.rPhase = 0)
    (hresp : u.ports.resp = t.ports.resp) : t.reader.rPhase = 0 ∧ u.reader.rSix = t.reader.rSix := by
  rw [← t.passTurn_ports] at hresp
  rw [← t.passTurn_reader]
  obtain ⟨-, ⟨i, -, hexec⟩ | hmove⟩ := step_next_cases hstep
  · exact rSix_of_exec_to_idle hexec hidle hresp
  · obtain ⟨hr, -⟩ := registers_of_fetch_move hmove
    rw [← hr]
    exact ⟨hidle, rfl⟩

/-- Later responses come after the one of the read, and until the next one the flag is found in `IDLE` as the read left
it. -/
theorem State.Answered.step_next (h : s.Answered t) (hstep : step t = .next u) : s.Answered u := by
  obtain ⟨rest, hresp, hsix⟩ := h
  obtain hkept | ⟨hword, -⟩ := responsesOnlyFromPollAndDone t u hstep
  · refine ⟨rest, hkept.trans hresp, fun hlast hidle => ?_⟩
    obtain ⟨hwasIdle, hsixKept⟩ := rSix_of_step_to_idle hstep hidle hkept
    exact hsixKept.trans (hsix hlast hwasIdle)
  · refine ⟨rest ++ [t.reader.rState], ?_, fun hlast => absurd hlast (List.append_ne_nil_of_right_ne_nil _ nofun)⟩
    rw [hword, hresp, List.append_assoc, List.cons_append]

end

/-! Any number of steps. -/

theorem State.ReadStarted.reading_or_answered {s t : State} {n : Nat} (hs : s.ReadStarted) (hset : s.noSetstate n)
    (hrun : Host.Core.run core n s = .next t) : s.Reading t ∨ s.Answered t := by
  have hend : t.noSetstate 0 ∧ (s.Reading t ∨ s.Answered t) :=
    run_induction (P := fun n u => u.noSetstate n ∧ (s.Reading u ∨ s.Answered u))
      (fun ⟨hleft, hread⟩ hstep => ⟨State.noSetstate_of_step hleft hstep,
        hread.elim (fun h => h.step_next hs hleft hstep) fun h => .inr (h.step_next hstep)⟩)
      ⟨hset, .inl hs.reading⟩ hrun
  exact hend.2

/-- Settles O54: inside the read there is no response and no `IDLE`, and after it the first response is the read's. -/
theorem everyScheduleMeetsThePatterns : Obligations.EveryScheduleMeetsThePatterns := by
  intro s t n hs hset hrun
  obtain hread | ⟨rest, hresp, -⟩ := hs.reading_or_answered hset hrun
  · exact .inl ⟨hread.resp, hread.busy⟩
  · exact .inr ⟨rest, hresp⟩

end Sys2Proof.Machine
end

section
/-! The word of an aligned and of a misaligned read (70_reset_and_hazards.md R186, R187, R194), bit by bit: which lines each
pattern asserts, and which bit the Reader makes of each. -/

namespace Sys2Proof.Machine

/-! The lines each pattern asserts (41_writer.md R134 to R138). -/

theorem asserted_patConnect (T : PadWord) :
    asserted (patConnect T) 0 = false ∧ asserted (patConnect T) 1 = false ∧
      asserted (patConnect T) 2 = T.getLsbD 0 ∧ asserted (patConnect T) 3 = T.getLsbD 0 ∧
      asserted (patConnect T) 4 = (T.getLsbD 0 && T.getLsbD 7) ∧
      asserted (patConnect T) 5 = (T.getLsbD 0 && T.getLsbD 8) := by
  simp only [asserted, patConnect, drivenLow, linesOf_getLsbD, Bool.not_true, Bool.not_not, and_self]

theorem asserted_patButtons (T : PadWord) :
    asserted (patButtons T) 0 = (T.getLsbD 0 && T.getLsbD 1) ∧
      asserted (patButtons T) 1 = (T.getLsbD 0 && T.getLsbD 2) ∧
      asserted (patButtons T) 2 = (T.getLsbD 0 && T.getLsbD 3) ∧
      asserted (patButtons T) 3 = (T.getLsbD 0 && T.getLsbD 4) ∧
      asserted (patButtons T) 4 = (T.getLsbD 0 && T.getLsbD 5) ∧
      asserted (patButtons T) 5 = (T.getLsbD 0 && T.getLsbD 6) := by
  simp only [asserted, patButtons, drivenLow, linesOf_getLsbD, Bool.not_not, and_self]

theorem asserted_patSixid (T : PadWord) (six : Bool) :
    asserted (patSixid T six) 0 = (T.getLsbD 0 && six) ∧ asserted (patSixid T six) 1 = (T.getLsbD 0 && six) ∧
      asserted (patSixid T six) 2 = false ∧ asserted (patSixid T six) 3 = false ∧
      asserted (patSixid T six) 4 = false ∧ asserted (patSixid T six) 5 = false := by
  simp only [asserted, patSixid, linesOf_getLsbD, Bool.not_true, Bool.not_not, and_self]

theorem asserted_patExt (T : PadWord) (six : Bool) :
    asserted (patExt T six) 0 = (T.getLsbD 0 && six && T.getLsbD 11) ∧
      asserted (patExt T six) 1 = (T.getLsbD 0 && six && T.getLsbD 10) ∧
      asserted (patExt T six) 2 = (T.getLsbD 0 && six && T.getLsbD 9) ∧
      asserted (patExt T six) 3 = (T.getLsbD 0 && six && T.getLsbD 12) ∧
      asserted (patExt T six) 4 = false ∧ asserted (patExt T six) 5 = false := by
  simp only [asserted, patExt, drivenLow, linesOf_getLsbD, Bool.not_true, Bool.not_not, and_self]

theorem connSeen_patConnect (T : PadWord) : connSeen (patConnect T) = T.getLsbD 0 := by
  simp [connSeen, asserted_patConnect]

theorem connSeen_patSixid (T : PadWord) (six : Bool) : connSeen (patSixid T six) = false := by
  simp [connSeen, asserted_patSixid]

theorem sixSeen_patConnect (T : PadWord) : sixSeen (patConnect T) = false := by
  simp [sixSeen, asserted_patConnect]

theorem sixSeen_patSixid (T : PadWord) (six : Bool) : sixSeen (patSixid T six) = (T.getLsbD 0 && six) := by
  simp [sixSeen, asserted_patSixid]

/-! The bits of a full read's word, of `RT(T)`, and of a masked word. -/

/-- The bits of the word of R112. -/
theorem fullReadWord_getLsbD (latch : SixLatch) (six : Bool) (d2 d3 d4 d5 : Lines) (i : Nat) :
    (fullReadWord latch six d2 d3 d4 d5).getLsbD i =
      (connSeen d2 && (decide (0 = i) || asserted d2 4 && decide (7 = i) || asserted d2 5 && decide (8 = i)) ||
        decide (1 ≤ i ∧ i ≤ 6) && asserted d3 (i - 1) ||
        latchSix latch six d4 && (asserted d5 0 && decide (11 = i) || asserted d5 1 && decide (10 = i) ||
          asserted d5 2 && decide (9 = i) || asserted d5 3 && decide (12 = i))) := by
  rw [← sampled_eq_fullReadWord, sampleExt_getLsbD, sampleButtons_getLsbD, sampleConnect_getLsbD]
  simp only [BitVec.ofNat_eq_ofNat, BitVec.getLsbD_zero, Bool.false_or, Bool.and_or_distrib_left, Bool.or_assoc, asserted]

theorem fullReadSix_eq (latch : SixLatch) (six : Bool) (d2 d4 : Lines) :
    fullReadSix latch six d2 d4 = (connSeen d2 && latchSix latch six d4) := by
  rw [latchSix_eq_fullReadLatched]
  rfl

theorem roundTripWord_getLsbD (T : PadWord) (six : Bool) {i : Nat} (hi : i < 16) :
    (roundTripWord T six).getLsbD i =
      (T.getLsbD 0 && T.getLsbD i && (decide (i < 9) || six && decide (9 ≤ i ∧ i ≤ 12))) := by
  have hlow : ∀ i < 16, (0x01FF#16).getLsbD i = decide (i < 9) := by decide
  have hext : ∀ i < 16, (0x1E00#16).getLsbD i = decide (9 ≤ i ∧ i ≤ 12) := by decide
  unfold roundTripWord
  cases T.getLsbD 0 <;> cases six <;>
    simp [hlow i hi, hext i hi, Bool.and_or_distrib_left]

theorem and_eq_zero_iff_getLsbD (v m : PadWord) :
    v &&& m = 0 ↔ ∀ i < 16, m.getLsbD i = true → v.getLsbD i = false := by
  constructor
  · intro h i _ hm
    have hbit : (v &&& m).getLsbD i = false := by rw [h]; exact BitVec.getLsbD_zero
    simpa [hm] using hbit
  · intro h
    apply BitVec.eq_of_getLsbD_eq
    intro i hi
    cases hm : m.getLsbD i
    · simp [hm]
    · simp [h i hi hm]

/-! The read under every schedule, after its one response. -/

theorem State.ReadStarted.one_response {s t : State} {n : Nat} {v : PadWord} (hs : s.ReadStarted)
    (hset : s.noSetstate n) (hrun : Host.Core.run core n s = .next t) (hresp : t.ports.resp = s.ports.resp ++ [v]) :
    v = s.readWord ∧ (t.reader.rPhase = 0 → t.reader.rSix = s.readSix) := by
  obtain hread | ⟨rest, hanswer, hsix⟩ := hs.reading_or_answered hset hrun
  · simp [hread.resp] at hresp
  · obtain ⟨rfl, hlast⟩ := List.cons.inj (List.append_cancel_left (hresp.symm.trans hanswer))
    exact ⟨rfl, hsix hlast.symm⟩

/-! The aligned read (70_reset_and_hazards.md R186). -/

/-- The word over the patterns of cycles 2 to 5 is `RT(T)`: the flag only lets through an EXT pattern that is itself gated
by CONN and `W_SIX`. -/
theorem fullReadWord_aligned (latch : SixLatch) (six : Bool) (T : PadWord) (wSix : Bool) :
    fullReadWord latch six (patConnect T) (patButtons T) (patSixid T wSix) (patExt T wSix) = roundTripWord T wSix := by
  have hlatched (b : Bool) : (latchSix latch six (patSixid T wSix) && (T[0] && wSix && b)) = (T[0] && b && wSix) := by
    rw [Bool.and_right_comm T[0] b]
    cases hgate : T[0] && wSix
    · rw [Bool.false_and, Bool.and_false]
    · rw [latchSix_of_sixSeen ((sixSeen_patSixid T wSix).trans hgate), Bool.true_and]
  apply BitVec.eq_of_getLsbD_eq
  intro i hi
  rw [fullReadWord_getLsbD, roundTripWord_getLsbD T wSix hi, connSeen_patConnect]
  interval_cases i <;> simp [asserted_patConnect, asserted_patButtons, asserted_patExt, hlatched]

theorem State.readWord_aligned {s : State} (hcycle : s.writer.wCycle = 7) :
    s.readWord = roundTripWord s.writer.wTarget s.cfg.wSix := by
  rw [State.readWord, State.patternAfter, State.patternAfter, State.patternAfter, State.patternAfter, hcycle]
  exact fullReadWord_aligned _ _ _ _

theorem State.readSix_aligned {s : State} (hcycle : s.writer.wCycle = 7) :
    (s.cfg.sixLatch = .assign → s.readSix = (s.writer.wTarget.getLsbD 0 && s.cfg.wSix)) ∧
      (s.cfg.sixLatch = .sticky →
        s.readSix = (s.writer.wTarget.getLsbD 0 && (s.cfg.wSix || s.reader.rSix))) := by
  have hconnect : s.patternAfter 3 = patConnect s.writer.wTarget := by rw [State.patternAfter, hcycle]; rfl
  have hsixid : s.patternAfter 5 = patSixid s.writer.wTarget s.cfg.wSix := by rw [State.patternAfter, hcycle]; rfl
  rw [State.readSix, hconnect, hsixid, fullReadSix_eq, connSeen_patConnect]
  constructor <;> intro hlatch <;> rw [hlatch, latchSix, sixSeen_patSixid]
  · rw [← Bool.and_assoc, Bool.and_self]
  · cases s.writer.wTarget.getLsbD 0 <;> cases s.cfg.wSix <;> simp

/-- Bits 9 to 12 are the extended ones (30_encoding.md R70). -/
theorem and_extended_eq_zero_iff (T : PadWord) :
    T &&& 0x1E00 = 0 ↔ ∀ i, 9 ≤ i → i ≤ 12 → T.getLsbD i = false := by
  have hmask : ∀ i < 16, (0x1E00 : PadWord).getLsbD i = decide (9 ≤ i ∧ i ≤ 12) := by decide
  rw [and_eq_zero_iff_getLsbD]
  constructor
  · intro h i hle hge
    exact h i (by omega) (by rw [hmask i (by omega), decide_eq_true ⟨hle, hge⟩])
  · intro h i hi hm
    obtain ⟨hle, hge⟩ := of_decide_eq_true ((hmask i hi).symm.trans hm)
    exact h i hle hge

theorem extractLsb'_reserved_eq_zero_iff (T : PadWord) :
    T.extractLsb' 13 3 = 0 ↔ ∀ i, 13 ≤ i → i < 16 → T.getLsbD i = false := by
  constructor
  · intro h i hle hlt
    have hbit : (T.extractLsb' 13 3).getLsbD (i - 13) = false := by rw [h]; exact BitVec.getLsbD_zero
    have hin : i - 13 < 3 := by omega
    rwa [BitVec.getLsbD_extractLsb', decide_eq_true hin, Bool.true_and, Nat.add_sub_cancel' hle] at hbit
  · intro h
    apply BitVec.eq_of_getLsbD_eq
    intro i hi
    rw [BitVec.getLsbD_extractLsb', h (13 + i) (by omega) (by omega), Bool.and_false]
    exact BitVec.getLsbD_zero.symm

/-- `RT(T)` is `T` when the bits it drops are clear: 13 to 15 always, all of them without CONN, and 9 to 12 without
`W_SIX`. -/
theorem roundTripWord_eq_self_iff (T : PadWord) (six : Bool) :
    roundTripWord T six = T ↔
      T.extractLsb' 13 3 = 0 ∧ (T.getLsbD 0 = false → T = 0x0000) ∧ (six = false → T &&& 0x1E00 = 0) := by
  rw [extractLsb'_reserved_eq_zero_iff, and_extended_eq_zero_iff]
  constructor
  · intro h
    have hbit (i : Nat) (hi : i < 16) :
        T.getLsbD i = (T.getLsbD 0 && T.getLsbD i && (decide (i < 9) || six && decide (9 ≤ i ∧ i ≤ 12))) := by
      rw [← roundTripWord_getLsbD T six hi, h]
    refine ⟨fun i hle hlt => ?_, fun hconn => ?_, fun hsix i hle hge => ?_⟩
    · have hdropped : ¬ i < 9 ∧ ¬ i ≤ 12 := by omega
      rw [hbit i hlt]
      simp [hdropped]
    · rw [← h, roundTripWord, hconn]
      rfl
    · have hdropped : ¬ i < 9 := by omega
      rw [hbit i (by omega)]
      simp [hdropped, hsix]
  · rintro ⟨hreserved, hdisconnected, hext⟩
    cases hconn : T.getLsbD 0
    · rw [hdisconnected hconn]
      rfl
    apply BitVec.eq_of_getLsbD_eq
    intro i hi
    rw [roundTripWord_getLsbD T six hi, hconn, Bool.true_and]
    obtain hlow | hle : i < 9 ∨ 9 ≤ i := Nat.lt_or_ge i 9
    · simp [hlow]
    obtain hge | hhigh : i ≤ 12 ∨ 13 ≤ i := Nat.lt_or_ge i 13 |>.imp_left Nat.le_of_lt_succ
    · cases six
      · rw [hext rfl i hle hge, Bool.false_and]
      · simp [hle, hge]
    · rw [hreserved i hhigh hi, Bool.false_and]

/-- Settles O55: the patterns from counter 7 on are CONNECT, BUTTONS, SIXID and EXT. -/
theorem alignedReadRoundTrip : Obligations.AlignedReadRoundTrip := by
  refine ⟨fun s t n hs hcycle hset hrun => ?_, roundTripWord_eq_self_iff⟩
  rw [← State.readWord_aligned hcycle]
  refine ⟨everyScheduleMeetsThePatterns s t n hs hset hrun, fun hidle hone => ?_⟩
  obtain hread | ⟨rest, hresp, hsix⟩ := hs.reading_or_answered hset hrun
  · exact absurd hidle hread.busy
  · have hlast : rest = [] := by simpa [hresp] using hone
    rw [hsix hlast hidle]
    exact State.readSix_aligned hcycle

/-! The misaligned reads (70_reset_and_hazards.md R187). -/

/-- From counter 5 or 3 the sample steps of cycles 2 to 5 find CONNECT and BUTTONS twice. -/
theorem State.readWord_fiveOrThree {s : State} (hcycle : s.writer.wCycle = 5 ∨ s.writer.wCycle = 3) :
    s.readWord =
      fullReadWord s.cfg.sixLatch s.reader.rSix (patConnect s.writer.wTarget) (patButtons s.writer.wTarget)
        (patConnect s.writer.wTarget) (patButtons s.writer.wTarget) := by
  simp only [State.readWord, State.patternAfter]
  obtain h | h := hcycle <;> rw [h] <;> rfl

/-- Settles O56: CONNECT never asserts the two six-button lines, so the flag is the one before or clear. -/
theorem misalignedReadFromFiveOrThree : Obligations.MisalignedReadFromFiveOrThree := by
  intro s t n v hs hcycle hset hrun hresp
  obtain ⟨rfl, -⟩ := hs.one_response hset hrun hresp
  rw [State.readWord_fiveOrThree hcycle]
  obtain ⟨hkept, hcleared⟩ := latchSix_of_not_sixSeen (sixSeen_patConnect s.writer.wTarget) s.reader.rSix
  simp only [and_extended_eq_zero_iff, fullReadWord_getLsbD, connSeen_patConnect]
  refine ⟨fun i hi => ?low, fun ⟨hsticky, hsix⟩ => ?shown, fun hclear i hle hge => ?clear⟩
  case low => interval_cases i <;> simp [asserted_patConnect, asserted_patButtons]
  case shown =>
    rw [hsticky, hkept, hsix]
    simp [asserted_patButtons]
  case clear =>
    have hlatched : latchSix s.cfg.sixLatch s.reader.rSix (patConnect s.writer.wTarget) = false := by
      cases hlatch : s.cfg.sixLatch with
      | assign => exact hcleared
      | sticky => exact hkept.trans (hclear.resolve_left (by simp [hlatch]))
    rw [hlatched]
    interval_cases i <;> simp

/-- From counter 1 the sample steps of cycles 2 to 5 find SIXID, EXT, CONNECT and BUTTONS. -/
theorem State.readWord_one {s : State} (hcycle : s.writer.wCycle = 1) :
    s.readWord =
      fullReadWord s.cfg.sixLatch s.reader.rSix (patSixid s.writer.wTarget s.cfg.wSix)
        (patExt s.writer.wTarget s.cfg.wSix) (patConnect s.writer.wTarget) (patButtons s.writer.wTarget) := by
  simp only [State.readWord, State.patternAfter]
  rw [hcycle]
  rfl

theorem State.readSix_one {s : State} (hcycle : s.writer.wCycle = 1) : s.readSix = false := by
  have hsixid : s.patternAfter 3 = patSixid s.writer.wTarget s.cfg.wSix := by rw [State.patternAfter, hcycle]; rfl
  rw [State.readSix, fullReadSix_eq, hsixid, connSeen_patSixid, Bool.false_and]

/-- Settles O57: SIXID asserts neither connection line, and EXT none of the lines of B and C. -/
theorem misalignedReadFromOne : Obligations.MisalignedReadFromOne := by
  intro s t n v hs hcycle hset hrun hresp
  obtain ⟨rfl, hsix⟩ := hs.one_response hset hrun hresp
  rw [State.readSix_one hcycle] at hsix
  have hmask : ∀ i < 16, (0x01E1 : PadWord).getLsbD i = decide (i ∈ [0, 5, 6, 7, 8]) := by decide
  simp only [and_eq_zero_iff_getLsbD, State.readWord_one hcycle, fullReadWord_getLsbD, connSeen_patSixid]
  refine ⟨fun i hi hm => ?_, ?_, ?_, ?_, ?_, hsix⟩
  · have hmem := of_decide_eq_true ((hmask i hi).symm.trans hm)
    fin_cases hmem <;> simp [asserted_patExt]
  all_goals simp [asserted_patExt]

end Sys2Proof.Machine
end

section
/-! A composed full read with one SAMPLE after each edge (60_exceptions.md R167, 70_reset_and_hazards.md R187): the four
turns of a cycle count one edge and sample the pattern of its count, under both values of `P_SETTLE`. -/

namespace Sys2Proof.Machine

/-- `s` inside a full read of the pair: the Reader's and the Writer's registers, the word on the Writer's port and the
turns ahead are the given ones, and the POLL has left its port. -/
def State.inPairRead (s : State) (r : Reader) (w : Writer) (cmd : Option CmdWord) (us : List Turn) : State :=
  { s with reader := r, writer := w, ports := { s.ports with rCmd := none, wCmd := cmd }, agenda := us }

/-- A micro-step inside a full read of the pair. -/
theorem step_inPairRead {s : State} (hpins : s.pinsOk = true) (r : Reader) (w : Writer) (us : List Turn) :
    step (s.inPairRead r w none (.reader :: us)) = exec (decodePhase r.rPhase) (s.inPairRead r w none us) :=
  stepRunsPhase (s.inPairRead r w none (.reader :: us)) us hpins rfl (.inr rfl)

/-- A SAMPLE at the level the Writer has not seen toggles the Writer. -/
theorem exec_sample_of_unseen {s : State} (hlevel : s.lineSel = !s.writer.wPrevSel) :
    exec .sample s =
      .next ((s.withPorts { s.ports with wCmd := none }).withWriter (s.writer.toggled s.cfg.wSix)) := by
  have hedge : s.lineSel ≠ s.writer.wPrevSel := hlevel ▸ Bool.not_ne_self _
  rw [Writer.toggled, ← hlevel]
  exact ExecEffect.exec_eq (.sampleEdge hedge)

/-- The four turns of one cycle: the select step `x`, the offer of a SAMPLE, the Writer's turn, and the sample step on the
lines the Writer then drives. -/
theorem run_composedCycle {s : State} (hpins : s.pinsOk = true) (hcomposed : s.cfg.wiring = .composed)
    {x : Instr × Bool × PhaseCode} (hx : x ∈ selectTable) {r : Reader} (hphase : encode x.1 = .phase r.rPhase)
    {w : Writer} (hlevel : x.2.1 = !w.wPrevSel) (n : Nat) (us : List Turn) :
    Host.Core.run core (n + 4) (s.inPairRead r w none (composedCycleTurns ++ us)) =
      Host.Core.run core n (s.inPairRead (r.cycled s.cfg.sixLatch x (w.toggled s.cfg.wSix).wDout)
        (w.toggled s.cfg.wSix) none us) := by
  have hselect : step (s.inPairRead r w none (composedCycleTurns ++ us)) =
      .next (s.inPairRead (r.selected x) w none (.writerHost 0x30000000 :: .writer :: .reader :: us)) := by
    refine (step_inPairRead hpins _ _ _).trans ?_
    rw [(decodePhase_eq_iff _ _).mpr hphase]
    exact ExecEffect.exec_eq (.select hx)
  have hoffer : step (s.inPairRead (r.selected x) w none (.writerHost 0x30000000 :: .writer :: .reader :: us)) =
      .next (s.inPairRead (r.selected x) w (some 0x30000000) (.writer :: .reader :: us)) :=
    step_of_agenda_move hpins rfl rfl
  have hsample : step (s.inPairRead (r.selected x) w (some 0x30000000) (.writer :: .reader :: us)) =
      .next (s.inPairRead (r.selected x) (w.toggled s.cfg.wSix) none (.reader :: us)) := by
    obtain ⟨-, haccept⟩ := stepRunsCommand (s.inPairRead (r.selected x) w (some 0x30000000) (.writer :: .reader :: us))
      (.reader :: us) _ .sample hpins
    have hline := (s.inPairRead (r.selected x) w (some 0x30000000) (.reader :: us)).lineSel_composed hcomposed
    exact (haccept rfl rfl (by decide)).trans (exec_sample_of_unseen (hline.trans hlevel))
  have hfires : step (s.inPairRead (r.selected x) (w.toggled s.cfg.wSix) none (.reader :: us)) =
      .next (s.inPairRead (r.cycled s.cfg.sixLatch x (w.toggled s.cfg.wSix).wDout) (w.toggled s.cfg.wSix) none us) := by
    refine (step_inPairRead hpins _ _ _).trans ?_
    have hsmp := exec_sampleStep (s := s.inPairRead (r.selected x) (w.toggled s.cfg.wSix) none us)
      (selectTable_next x hx) ((State.settled_iff _).mpr fun _ _ => hlevel.symm)
    rwa [State.lineDin_composed (s.inPairRead _ _ _ _) hcomposed] at hsmp
  rw [run_succ_of_step hselect, run_succ_of_step hoffer, run_succ_of_step hsample, run_succ_of_step hfires]

/-- After `k` edges the Writer drives the pattern `k` counts further. -/
theorem State.toggled_iterate_wDout_eq_patternAfter (s : State) {k : Nat} (hk : 0 < k) :
    ((Writer.toggled s.cfg.wSix)^[k] s.writer).wDout = s.patternAfter (BitVec.ofNat 3 k) := by
  rw [Writer.toggled_iterate_wDout _ hk, Writer.toggled_iterate_wCycle]
  rfl

/-- The cycle after `k` edges samples the pattern `k + 1` counts further. -/
theorem run_composedCycle_after {s : State} (hpins : s.pinsOk = true) (hcomposed : s.cfg.wiring = .composed) (k : Nat)
    {x : Instr × Bool × PhaseCode} (hx : x ∈ selectTable) {r : Reader} (hphase : encode x.1 = .phase r.rPhase)
    (hlevel : x.2.1 = !((Writer.toggled s.cfg.wSix)^[k] s.writer).wPrevSel) (n : Nat) (us : List Turn) :
    Host.Core.run core (n + 4)
        (s.inPairRead r ((Writer.toggled s.cfg.wSix)^[k] s.writer) none (composedCycleTurns ++ us)) =
      Host.Core.run core n (s.inPairRead (r.cycled s.cfg.sixLatch x (s.patternAfter (BitVec.ofNat 3 (k + 1))))
        ((Writer.toggled s.cfg.wSix)^[k + 1] s.writer) none us) := by
  rw [← s.toggled_iterate_wDout_eq_patternAfter k.succ_pos, Function.iterate_succ_apply']
  exact run_composedCycle hpins hcomposed hx hphase hlevel n us

/-- The six cycles of a read count six edges and sample the patterns of their counts. -/
theorem run_composedCycles {s : State} (hpins : s.pinsOk = true) (hcomposed : s.cfg.wiring = .composed)
    (hseen : s.writer.wPrevSel = true) (now : Time) (n : Nat) (us : List Turn) :
    Host.Core.run core (n + 24) (s.inPairRead { s.reader with rState := 0x0000, rNow := now, rPhase := 0x1 } s.writer none
        ((List.replicate 6 composedCycleTurns).flatten ++ us)) =
      Host.Core.run core n (s.inPairRead
        { s.reader with rState := s.readWord, rSix := s.sixAfter 6, rNow := now, rPhase := 0xD, rSel := true }
        ((Writer.toggled s.cfg.wSix)^[6] s.writer) none us) := by
  have hcycle := run_composedCycle_after hpins hcomposed
  change Host.Core.run core _ (s.inPairRead _ _ none (composedCycleTurns ++ (composedCycleTurns ++ (composedCycleTurns ++
    (composedCycleTurns ++ (composedCycleTurns ++ (composedCycleTurns ++ us))))))) = _
  refine (hcycle 0 (x := (.sel0, false, 0x2)) (by decide) rfl (by simp [hseen]) _ _).trans ?_
  refine (hcycle 1 (x := (.sel1, true, 0x4)) (by decide) rfl (by simp [Writer.toggled, hseen]) _ _).trans ?_
  refine (hcycle 2 (x := (.sel2, false, 0x6)) (by decide) rfl (by simp [Writer.toggled, hseen]) _ _).trans ?_
  refine (hcycle 3 (x := (.sel3, true, 0x8)) (by decide) rfl (by simp [Writer.toggled, hseen]) _ _).trans ?_
  refine (hcycle 4 (x := (.sel4, false, 0xA)) (by decide) rfl (by simp [Writer.toggled, hseen]) _ _).trans ?_
  refine (hcycle 5 (x := (.sel5, true, 0xC)) (by decide) rfl (by simp [Writer.toggled, hseen]) _ _).trans ?_
  rw [← s.padAfter_six]
  rfl

/-- Settles O53: the POLL is accepted, six cycles run, and `DONE` responds. -/
theorem composedReadRunsToItsEnd : Obligations.ComposedReadRunsToItsEnd := by
  intro s us hpins hcomposed hidle hsel hseen hcmd hfreePort hfree hagenda
  have hpoll : step s = .next (s.inPairRead { s.reader with rState := 0x0000, rNow := s.env.now, rPhase := 0x1 } s.writer
      s.ports.wCmd ((List.replicate 6 composedCycleTurns).flatten ++ (.reader :: us))) := by
    obtain ⟨haccept, -⟩ := stepRunsCommand s _ 0x10000000 .poll hpins
    exact (haccept hagenda hidle hcmd (by decide)).trans (ExecEffect.exec_eq (.pollStart hidle hfree))
  rw [hfreePort] at hpoll
  rw [run_succ_of_step hpoll, run_composedCycles hpins hcomposed hseen _ 1]
  have hdone := (step_inPairRead hpins
    { s.reader with rState := s.readWord, rSix := s.sixAfter 6, rNow := s.env.now, rPhase := 0xD, rSel := true }
    ((Writer.toggled s.cfg.wSix)^[6] s.writer) us).trans (doneStep _)
  refine ⟨_, run_succ_of_step hdone 0, rfl, rfl, rfl, ?_, ?_, ?_, rfl⟩
  · simp [State.inPairRead, Writer.toggled, hseen]
  · exact Writer.toggled_iterate_wCycle _ 6 _
  · exact Writer.toggled_iterate_wTarget _ 6 _

end Sys2Proof.Machine
end
